-- ==== Sys2Proof/Word.lean ====
section
/-! DEFINITION. The plain widths and numbers of the bridge, and the two ways a vector of like things is built.

Names follow the manual: a tick is 10 ms (00_scope.md, "Time"), a tunnel is numbered 0..1023 (R18), a profile 0..15 (R28),
an uplink 0..3 (R93), an interval entry 0..47 (R7). -/

namespace Sys2Proof

/-- One byte of a frame. -/
abbrev Byte := BitVec 8

/-- A value of the free-running 32-bit tick counter (R81). -/
abbrev Tick := BitVec 32

/-- A 48-bit station address. -/
abbrev Mac := BitVec 48

/-- A tunnel number, 0..1023 (R18). -/
abbrev TunnelId := Fin 1024

/-- A profile number, 0..15 (R28). -/
abbrev ProfileId := Fin 16

/-- An uplink number, 0..3, and so also the name of an uplink group (R93, R101). -/
abbrev UplinkId := Fin 4

/-- An entry number of the interval table, 0..47 (R7). -/
abbrev EntryId := Fin 48

/-- `n` places that all hold `x`. -/
def vecConst {α : Type} (n : Nat) (x : α) : Vector α n :=
  ⟨⟨List.replicate n x⟩, List.length_replicate⟩

/-- The vector with `f` applied at every place. -/
def vecMap {α β : Type} {n : Nat} (f : α → β) (v : Vector α n) : Vector β n :=
  ⟨⟨v.toArray.toList.map f⟩, by simp⟩

end Sys2Proof
end

