-- ==== Sys2Proof/Config.lean ====
section
/-! DEFINITION. What the manual leaves outside itself: the key derivation and the random source.

The manual names the algorithms of the key derivation and states what the bridge supplies to them (00_scope.md, "Scope of this
manual"; R60). The derivation's result and the drawn nonces are free values: opaque constants without a body, so that a claim
holds whatever they are. -/

namespace Sys2Proof

/-- What the Key Derivation Unit takes at the start of a derivation (R60): the master secret and its epoch as they stand at that
event, the tunnel number, the target generation (0 for a bootstrap) and two nonces (zero for a bootstrap). -/
structure KdfInputs where
  secret : BitVec 256
  epoch : BitVec 16
  tunnel : TunnelId
  target : BitVec 8
  bridgeNonce : BitVec 128
  shopNonce : BitVec 128
  deriving DecidableEq, Repr

/-- The 32-byte key that a derivation yields. Free: the manual does not give the expansion (section 4.3). Log entry 1. -/
opaque Config.derivedKey : KdfInputs → BitVec 256

/-- The 4-byte salt that a derivation yields. Free, as the key. Log entry 1. -/
opaque Config.derivedSalt : KdfInputs → BitVec 32

/-- The n-th draw of the bridge's internal random source, 16 bytes (R56). Free: a claim holds for every source. Log entry 2. -/
opaque Config.drawnNonce : Nat → BitVec 128

end Sys2Proof
end

