-- ==== Sys2Proof/Syntax.lean ====
section
/-! DEFINITION. The commands of the bridge: one constructor for each row of spec/opcode_table.json, with its operands.

A frame on the office side is its bytes. A frame on the carrier side is its header bytes in the clear and, in place of
ciphertext and tag, WHAT WAS ENCIPHERED: the manual relies on one property of the cipher, that a frame opens under the key and
generation that enciphered it and fails its tag check under any other (00_scope.md; section 3.2), and this is that property as
data. The block of INSTALL_SECRET is treated the same way (R57). Log entries 3 and 4. -/

namespace Sys2Proof

/-- What a 56-byte wrapped block wraps: the transport key and the tunnel number it was made for, and its 40 bytes, the first of
them most significant (R57). -/
structure Wrapping where
  key : BitVec 256
  tunnel : BitVec 16
  content : BitVec 320
  deriving DecidableEq, Repr

/-- A frame of the office LAN or of the cascade port: its bytes from the destination address to the end of its payload, without
the frame check sequence. `wrap` says what the wrapped block in it wraps, where it is an INSTALL_SECRET command carrying a
genuine block. -/
structure EthFrame where
  bytes : List Byte
  wrap : Option Wrapping := none
  deriving DecidableEq, Repr

/-- A frame as the office port receives it (R1), with the level of the PROV_S pin at that event (R167, R168). -/
structure OfficeArrival where
  frame : EthFrame
  fcsOk : Bool
  prov : Bool
  deriving DecidableEq, Repr

/-- Ciphertext and tag, as what went into them: the key, the 12-byte nonce, the authenticated data and the enciphered body
(section 3.2). -/
structure Sealed where
  key : BitVec 256
  nonce : BitVec 96
  aad : List Byte
  body : List Byte
  deriving DecidableEq, Repr

/-- A frame on a carrier uplink. `head` is the first twelve bytes after the type field (the tunnel header of R174), `cipher`
the ciphertext and tag that follow it, as what went into them (`none` where what follows opens under no key), and `rest` the bytes
after these: the padding after the tag, or all that follows the header where nothing opens. -/
structure CarrierFrame where
  dst : Mac
  src : Mac
  etherType : BitVec 16
  head : List Byte
  cipher : Option Sealed
  rest : List Byte
  deriving DecidableEq, Repr

/-- The settings of a profile (R28), in the order of its table. WRITE_PROFILE carries one with the values as they stand on the
wire; a stored one has been clamped (R29). -/
structure Profile where
  frameLimit : Nat
  ageLimit : Nat
  rateBeta : Nat
  response : Nat
  retryLimit : Nat
  derivation : Nat
  retryHoldoff : Nat
  grace : Nat
  probeOpen : Nat
  probeClosed : Nat
  fastBeta : Nat
  baseBeta : Nat
  slowBeta : Nat
  threshold : Nat
  suspectCount : Nat
  missLimit : Nat
  seedCount : Nat
  seedMin : Nat
  seedMax : Nat
  reseedBand : Nat
  settleThreshold : Nat
  settleSamples : Nat
  releasePct : Nat
  dormancyTimeout : Nat
  dataLimit : Nat
  deriving DecidableEq, Repr

/-- The payload of WRITE_TUNNEL: the tunnel and the fields that are present, each as its bytes carry it (R21, R176). -/
structure TunnelWrite where
  tunnel : BitVec 16
  enabled : Option Byte := none
  profile : Option Byte := none
  peer : Option Mac := none
  role : Option Byte := none
  reference : Option (BitVec 16) := none
  weight : Option (BitVec 16) := none
  shadowGroup : Option Byte := none
  snoop : Option Byte := none
  deriving DecidableEq, Repr

/-- What every command carries beside its payload: its source address, its return tag, the level of PROV_S as it is taken, and
the frame it came in when that frame bears the broadcast label (`none`: it bears this bridge's own label). -/
structure CmdHeader where
  source : Mac
  tag : BitVec 16
  prov : Bool := false
  broadcast : Option EthFrame := none
  deriving DecidableEq, Repr

/-- One constructor for each row of the table of operations and events. A `sub` operand is the part of the current tick, in
0.1 ms, at which an event that reads the measurement clock falls (R115). -/
inductive Instr where
  | officeFrameArrival (a : OfficeArrival)
  | lookupTakeFrame
  | uplinkFrameReceive (u : UplinkId) (f : CarrierFrame) (fcsOk : Bool) (sub : Fin 100)
  | carrierLoss (u : UplinkId)
  | carrierReturn (u : UplinkId)
  | inboundTunnelFrame (u : UplinkId)
  | derivationStart
  | derivationComplete (sub : Fin 100)
  | responseExpiry (t : TunnelId)
  | retryHoldoffExpiry (t : TunnelId)
  | jitterDelayExpiry (t : TunnelId)
  | graceExpiry (t : TunnelId)
  | ageIncrement (t : TunnelId)
  | rateIntervalEnd
  | probeExpiry (t : TunnelId) (sub : Fin 100)
  | dormancyExpiry (t : TunnelId)
  | dormantEntry (t : TunnelId)
  | grant (g : UplinkId)
  | uplinkTxComplete (u : UplinkId)
  | groupDiscard (g : UplinkId)
  | officeTxStart
  | officeTxComplete
  | cascadeTxStart
  | cascadeTxComplete
  | cascadeLinkDown
  | cascadeLinkUp
  | cascadeFrameReceive (f : EthFrame) (fcsOk : Bool)
  | reportExpiry
  | noticeHoldoffExpiry
  | identify (h : CmdHeader)
  | setLabel (h : CmdHeader) (label : BitVec 16)
  | readCounters (h : CmdHeader)
  | ackReset (h : CmdHeader)
  | setNotice (h : CmdHeader) (mode : Byte) (interval holdoff mask : BitVec 16)
  | setIndicator (h : CmdHeader) (mask : BitVec 16) (polarity : Byte)
  | readSummary (h : CmdHeader)
  | readFaults (h : CmdHeader) (n : Byte)
  | writeInterval (h : CmdHeader) (entry : Byte) (separator : BitVec 16) (action : Byte) (base : BitVec 16)
  | readInterval (h : CmdHeader) (copy entry : Byte)
  | writeGroups (h : CmdHeader) (flags : Byte)
  | applyTables (h : CmdHeader)
  | intervalTableCopy
  | groupSwap
  | applyTablesComplete
  | writeProfile (h : CmdHeader) (profile : Byte) (values : Profile)
  | readProfile (h : CmdHeader) (profile : Byte)
  | writeTunnel (h : CmdHeader) (w : TunnelWrite)
  | readTunnel (h : CmdHeader) (tunnel : BitVec 16)
  | installSecret (h : CmdHeader) (tunnel : BitVec 16) (block : Option Wrapping)
  | eraseKeysGenerations (h : CmdHeader) (tunnel : BitVec 16)
  | eraseKeysAll (h : CmdHeader) (tunnel : BitVec 16)
  | renewNow (h : CmdHeader) (tunnel : BitVec 16)
  | setShopState (h : CmdHeader) (tunnel : BitVec 16) (shop : Byte)
  | reseed (h : CmdHeader) (tunnel : BitVec 16)
  | setClassify (h : CmdHeader) (offset : Byte) (port statusType : BitVec 16)
  | setJitter (h : CmdHeader) (seed base range : BitVec 16)
  | setRetention (h : CmdHeader) (bank segment : Byte)
  | uplinkStart (h : CmdHeader) (uplink flags : Byte)
  | uplinkStop (h : CmdHeader) (uplink flags : Byte)
  | setTransportKey (h : CmdHeader) (key : BitVec 256)
  | resetLevel1 (h : CmdHeader)
  | resetLevel2 (h : CmdHeader)
  | resetLevel2Complete
  | resetLevel3 (h : CmdHeader)
  | resetLevel3Perform (straps : BitVec 6)
  | pinResetAssert
  | pinResetRelease (straps : BitVec 6)
  | tick
  deriving DecidableEq, Repr

end Sys2Proof
end

