-- ==== Sys2Proof/Machine/State.lean ====
section
/-! DEFINITION. The state of the bridge as plain data, and its value right after a pin reset.

One field for each piece of state the manual names; INVENTORY.md lists them with their rules. The office side's pins LBL_S0..5
and PROV_S are inputs and arrive as operands of the commands that sample them; RST_N and the carrier signals are held here. -/

namespace Sys2Proof.Machine

/-! ### Modes and names -/

/-- The keying state (R55). OFFERING and DERIVING carry the target generation of the exchange (R65, R66). -/
inductive KeyState where
  | noSecret
  | bootstrap
  | unkeyed
  | offering (target : BitVec 8)
  | deriv (target : BitVec 8)
  | keyed
  | pending
  | held
  deriving DecidableEq, Repr

/-- The shop state (R137). -/
inductive ShopState where
  | unknown
  | opened
  | closing
  | closed
  deriving DecidableEq, Repr

/-- The configured health role (R18, R128). -/
inductive HealthRole where
  | independent
  | reference
  | follower
  deriving DecidableEq, Repr

/-- The health state (R110). -/
inductive HealthState where
  | off
  | unseeded
  | seeding
  | normal
  | suspect
  | faultedDelay
  | faultedSilent
  deriving DecidableEq, Repr

/-- The link state of an uplink (R93). -/
inductive LinkState where
  | stopped
  | up
  | errored
  deriving DecidableEq, Repr

/-- The error cause of an uplink (R93). -/
inductive ErrorCause where
  | none
  | carrierLoss
  | receiveErrors
  deriving DecidableEq, Repr

/-- The action of an interval (R7). -/
inductive IntervalAction where
  | drop
  | tunnel
  deriving DecidableEq, Repr

/-- The notice mode (R157). -/
inductive NoticeMode where
  | streaming
  | event
  deriving DecidableEq, Repr

/-- The eighteen kinds of fault record, in the order of their codes (R149). -/
inductive FaultKind where
  | delayFault
  | silentFault
  | release
  | seedError
  | reseed
  | renewFail
  | keyExhausted
  | genUnconfirmed
  | secretExhausted
  | tagFail
  | replay
  | classDrop
  | mapRange
  | uplinkDown
  | uplinkUp
  | mgmtMisdirected
  | tailDrop
  | officeOverrun
  deriving DecidableEq, Repr

/-! ### A tunnel entry -/

/-- The configured fields of a tunnel entry (R18). -/
structure TunnelConfig where
  enabled : Bool
  profile : ProfileId
  peer : Mac
  role : HealthRole
  reference : TunnelId
  weight : Fin 8192
  shadowGroup : UplinkId
  activeGroup : UplinkId
  snoop : Bool
  deriving DecidableEq, Repr

/-- An installed master secret with its epoch (R57). -/
structure MasterSecret where
  secret : BitVec 256
  epoch : BitVec 16
  deriving DecidableEq, Repr

/-- An inbound replay window: the highest sequence number accepted, and the numbers from `high - 63` to `high` that have been
accepted, latest first (R44). -/
structure Window where
  high : Nat
  seen : List Nat
  deriving DecidableEq, Repr

/-- What every generation context holds: its key, its salt and its replay window (R19, R33). -/
structure KeyContext where
  key : BitVec 256
  salt : BitVec 32
  window : Window
  deriving DecidableEq, Repr

/-- The generation 0 context: the epoch installed with the secret, and the last sequence number assigned (R58, R33). -/
structure Gen0 where
  epoch : BitVec 16
  ctx : KeyContext
  lastSeq : Nat
  deriving DecidableEq, Repr

/-- The current generation: its number, the last sequence number assigned and its age in seconds (R33, R34). `nextAge` is the
tick at which the age next rises, a hundred ticks after the switch and every hundred ticks from there (R34). -/
structure CurGen where
  number : BitVec 8
  ctx : KeyContext
  lastSeq : Nat
  age : Nat
  nextAge : Tick
  deriving DecidableEq, Repr

/-- The previous generation: a number, key, salt and window; it has neither age nor transmit sequence (R33). -/
structure PrevGen where
  number : BitVec 8
  ctx : KeyContext
  deriving DecidableEq, Repr

/-- The bridge nonce held together with its response expiry (R56). -/
structure OfferNonce where
  value : BitVec 128
  expiry : Tick
  deriving DecidableEq, Repr

/-- The outstanding probe: its number and its departure on the measurement clock, in 0.1 ms (R110, R113). -/
structure Outstanding where
  number : BitVec 8
  departure : BitVec 32
  deriving DecidableEq, Repr

/-- The health record of a tunnel (R110): the filters F, A, B and the deviations D, Dc in 1/16 of 0.1 ms are `fast`, `slow`,
`base`, `dev` and `comp`. -/
structure Health where
  state : HealthState
  probe : BitVec 8
  outstanding : Option Outstanding
  expiry : Option Tick
  miss : Nat
  seeds : List Nat
  refSeed : Nat
  fast : Int
  slow : Int
  base : Int
  dev : Int
  comp : Int
  suspect : Nat
  settle : Nat
  snapshot : Option Int
  deriving DecidableEq, Repr

/-- The counters of a tunnel, each 32 bits and saturating (R27). -/
structure TunnelCounters where
  framesOut : BitVec 32
  framesIn : BitVec 32
  noKey : BitVec 32
  exhausted : BitVec 32
  tailDrop : BitVec 32
  tagFail : BitVec 32
  replay : BitVec 32
  tooOld : BitVec 32
  unknownGen : BitVec 32
  staleControl : BitVec 32
  deriving DecidableEq, Repr

/-- A tunnel entry (R18, R19, R56, R82, R110, R137). `rate` is R in 1/16 frame per rate interval, `sample` the count n. -/
structure Tunnel where
  cfg : TunnelConfig
  keyState : KeyState
  secret : Option MasterSecret
  gen0 : Option Gen0
  cur : Option CurGen
  prev : Option PrevGen
  nonce : Option OfferNonce
  attempts : Nat
  holdoff : Option Tick
  jitter : Option Tick
  grace : Option Tick
  rate : Nat
  sample : Nat
  shop : ShopState
  dormant : Bool
  renewBefore : Bool
  dormancyExpiry : Option Tick
  dormancyDue : Bool
  health : Health
  egress : List CarrierFrame
  counters : TunnelCounters
  deriving DecidableEq, Repr

/-! ### The blocks outside the tunnel entries -/

/-- An entry of an interval table (R7). The separator of entry 47 is fixed at 65536 and is not read from this field. -/
structure Interval where
  separator : BitVec 16
  action : IntervalAction
  base : TunnelId
  deriving DecidableEq, Repr

/-- The device counters that are not an uplink's, each 32 bits and saturating (R173). -/
structure DeviceCounters where
  officeRxError : BitVec 32
  officeHoldOverrun : BitVec 32
  tunnelTypeIn : BitVec 32
  nonIp : BitVec 32
  classDrop : BitVec 32
  mapRange : BitVec 32
  clearInbound : BitVec 32
  malformed : BitVec 32
  inactiveTunnel : BitVec 32
  officeOverrun : BitVec 32
  mgmtMalformed : BitVec 32
  cascadeDrop : BitVec 32
  deriving DecidableEq, Repr

/-- What a derivation is for (R59): a generation entry carries its target, the bridge nonce and the shop nonce. -/
inductive DerivationKind where
  | bootstrap
  | generation (target : BitVec 8) (bridgeNonce shopNonce : BitVec 128)
  deriving DecidableEq, Repr

/-- An entry of the derivation queue (R59). -/
structure KduEntry where
  tunnel : TunnelId
  kind : DerivationKind
  deriving DecidableEq, Repr

/-- The derivation in flight: the tunnel it belongs to (`none` once it has been aborted, R61), its kind, and the inputs taken at
its start (R60). -/
structure KduFlight where
  owner : Option TunnelId
  kind : DerivationKind
  inputs : KdfInputs
  deriving DecidableEq, Repr

/-- A frame an uplink has delivered to the Cipher Engine and the Engine has not yet taken, with its arrival on the measurement
clock (R93, R115). -/
structure Delivered where
  frame : CarrierFrame
  arrival : BitVec 32
  deriving DecidableEq, Repr

/-- An uplink port (R93) with its carrier signal, its five counters (R97), and the frames it has delivered and the Cipher
Engine has not yet taken, in the order of their reception (R40). -/
structure Uplink where
  link : LinkState
  autoRestart : Bool
  discardOnError : Bool
  cause : ErrorCause
  erroredSince : Option Tick
  rxErrors : Nat
  tx : Option CarrierFrame
  carrier : Bool
  delivered : List Delivered
  txCount : BitVec 32
  txLost : BitVec 32
  discards : BitVec 32
  rxCount : BitVec 32
  rxError : BitVec 32
  deriving DecidableEq, Repr

/-- The "continues group" flags of uplinks 1, 2 and 3 (R101). -/
structure GroupFlags where
  u1 : Bool
  u2 : Bool
  u3 : Bool
  deriving DecidableEq, Repr

/-- What a frame in the office transmit queue is (R53, R54). -/
inductive OfficeKind where
  | clear
  | reply
  | notice
  | cascade
  deriving DecidableEq, Repr

/-- A frame of the office transmit queue. -/
structure OfficeFrame where
  kind : OfficeKind
  frame : EthFrame
  deriving DecidableEq, Repr

/-- A frame of the cascade forwarding list; `awaited` marks the broadcast RESET whose transmission a level 3 waits for (R172). -/
structure CascadeEntry where
  frame : EthFrame
  awaited : Bool
  deriving DecidableEq, Repr

/-- A fault record (R149). -/
structure FaultRecord where
  kind : FaultKind
  subject : Option Nat
  detail : BitVec 32
  count : Nat
  first : Tick
  last : Tick
  deriving DecidableEq, Repr

/-- The command in progress, with the source address and return tag its reply goes to (R11, R166, R170, R172). -/
inductive Progress where
  | applyTables (source : Mac) (tag : BitVec 16) (copied swapped : Bool)
  | level2 (source : Mac) (tag : BitVec 16)
  | level3 (source : Mac) (tag : BitVec 16)
  deriving DecidableEq, Repr

/-- The whole bridge. -/
structure State where
  -- pins and time
  rstLow : Bool
  tick : Tick
  phase : Fin 10
  intervalEnd : Bool
  clock : BitVec 32
  -- Classifier
  holding : List EthFrame
  paused : Bool
  intervals : Vector Interval 48
  shadowIntervals : Vector Interval 48
  keyOffset : Nat
  statusPort : BitVec 16
  statusType : BitVec 16
  counters : DeviceCounters
  -- Tunnel Context Store
  tunnels : Vector Tunnel 1024
  profiles : Vector Profile 16
  bankMask : BitVec 8
  segmentMask : BitVec 8
  -- Key Derivation Unit and the random source
  kduQueue : List KduEntry
  kduFlight : Option KduFlight
  draws : Nat
  -- Renewal Scheduler
  lfsr : BitVec 16
  jitterBase : Nat
  jitterRange : Nat
  -- Uplinks and Egress Scheduler
  uplinks : Vector Uplink 4
  groupFlags : GroupFlags
  shadowGroupFlags : GroupFlags
  waiting : Vector (List TunnelId) 4
  pointers : Vector (Option UplinkId) 4
  -- Office Port and cascade port
  officeQueue : List OfficeFrame
  officeTx : Option EthFrame
  cascadeUp : Bool
  cascadeList : List CascadeEntry
  cascadeTx : Bool
  -- Fault Reporter
  faults : List FaultRecord
  flags : BitVec 11
  overflow : Nat
  station : Option Mac
  noticeMode : NoticeMode
  reportInterval : Nat
  noticeHoldoff : Nat
  eventMask : BitVec 11
  reportExpiry : Option Tick
  holdoffExpiry : Option Tick
  noticePending : Bool
  indicatorMask : BitVec 11
  indicatorHigh : Bool
  faultInd : Bool
  -- Management Agent
  label : BitVec 16
  straps : BitVec 6
  progress : Option Progress
  transportKey : Option (BitVec 256)
  -- the commands that are waiting, first in, first out
  pending : List Instr
  deriving DecidableEq, Repr

/-- The faults of the machine. None: the manual gives every operation and event an effect in every state. -/
inductive Fault where
  deriving DecidableEq, Repr

/-- The refusals of the machine. -/
inductive Refusal where
  /-- Raised by `exec`'s arm of a command that has no meaning yet; safe. No arm raises it. -/
  | notModelled (mnemonic : String)
  deriving DecidableEq, Repr

/-- What a command answers. -/
abbrev Result := Host.Outcome State Fault Refusal

/-! ### Reset values -/

end Sys2Proof.Machine

namespace Sys2Proof

/-- The default profile (R28). -/
def Profile.default : Profile where
  frameLimit := 2147483648
  ageLimit := 28800
  rateBeta := 32
  response := 150
  retryLimit := 2
  derivation := 10
  retryHoldoff := 3000
  grace := 500
  probeOpen := 100
  probeClosed := 1500
  fastBeta := 64
  baseBeta := 4
  slowBeta := 16
  threshold := 50
  suspectCount := 3
  missLimit := 4
  seedCount := 8
  seedMin := 1
  seedMax := 20000
  reseedBand := 1000
  settleThreshold := 20
  settleSamples := 10
  releasePct := 64
  dormancyTimeout := 1800
  dataLimit := 32

end Sys2Proof

namespace Sys2Proof.Machine

/-- The health record after a pin reset (R110). -/
def Health.reset : Health where
  state := .off
  probe := 0
  outstanding := none
  expiry := none
  miss := 0
  seeds := []
  refSeed := 0
  fast := 0
  slow := 0
  base := 0
  dev := 0
  comp := 0
  suspect := 0
  settle := 0
  snapshot := none

/-- All counters of a tunnel at 0 (R27). -/
def TunnelCounters.zero : TunnelCounters where
  framesOut := 0
  framesIn := 0
  noKey := 0
  exhausted := 0
  tailDrop := 0
  tagFail := 0
  replay := 0
  tooOld := 0
  unknownGen := 0
  staleControl := 0

/-- The configured fields after a pin reset (R18). -/
def TunnelConfig.reset : TunnelConfig where
  enabled := false
  profile := 0
  peer := 0
  role := .independent
  reference := 0
  weight := 4096
  shadowGroup := 0
  activeGroup := 0
  snoop := true

/-- A tunnel entry after a pin reset (R18, R19, R137). -/
def Tunnel.reset : Tunnel where
  cfg := TunnelConfig.reset
  keyState := .noSecret
  secret := none
  gen0 := none
  cur := none
  prev := none
  nonce := none
  attempts := 0
  holdoff := none
  jitter := none
  grace := none
  rate := 0
  sample := 0
  shop := .unknown
  dormant := false
  renewBefore := false
  dormancyExpiry := none
  dormancyDue := false
  health := Health.reset
  egress := []
  counters := TunnelCounters.zero

/-- An interval entry after a pin reset (R7). -/
def Interval.reset : Interval where
  separator := 65535
  action := .drop
  base := 0

/-- The device counters at 0 (R173). -/
def DeviceCounters.zero : DeviceCounters where
  officeRxError := 0
  officeHoldOverrun := 0
  tunnelTypeIn := 0
  nonIp := 0
  classDrop := 0
  mapRange := 0
  clearInbound := 0
  malformed := 0
  inactiveTunnel := 0
  officeOverrun := 0
  mgmtMalformed := 0
  cascadeDrop := 0

/-- An uplink after a pin reset (R93, R97), its carrier signal absent (log entry 7). -/
def Uplink.reset : Uplink where
  link := .stopped
  autoRestart := false
  discardOnError := false
  cause := .none
  erroredSince := none
  rxErrors := 0
  tx := none
  carrier := false
  delivered := []
  txCount := 0
  txLost := 0
  discards := 0
  rxCount := 0
  rxError := 0

/-- Every continues-group flag clear (R101). -/
def GroupFlags.clear : GroupFlags where
  u1 := false
  u2 := false
  u3 := false

/-- The bridge right after the rise of RST_N, its label straps reading `straps` (R171 and the reset column of every chapter).
RESET is set, so the indicator pin, active low with every flag in its mask, is low (R161). -/
def State.afterReset (straps : BitVec 6) : State where
  rstLow := false
  tick := 0
  phase := 0
  intervalEnd := false
  clock := 0
  holding := []
  paused := false
  intervals := vecConst 48 Interval.reset
  shadowIntervals := vecConst 48 Interval.reset
  keyOffset := 8
  statusPort := 0
  statusType := 0x5354
  counters := DeviceCounters.zero
  tunnels := vecConst 1024 Tunnel.reset
  profiles := vecConst 16 Profile.default
  bankMask := 0
  segmentMask := 0
  kduQueue := []
  kduFlight := none
  draws := 0
  lfsr := 1
  jitterBase := 0
  jitterRange := 1
  uplinks := vecConst 4 Uplink.reset
  groupFlags := GroupFlags.clear
  shadowGroupFlags := GroupFlags.clear
  waiting := vecConst 4 []
  pointers := vecConst 4 none
  officeQueue := []
  officeTx := none
  cascadeUp := false
  cascadeList := []
  cascadeTx := false
  faults := []
  flags := 1
  overflow := 0
  station := none
  noticeMode := .event
  reportInterval := 100
  noticeHoldoff := 50
  eventMask := BitVec.allOnes 11
  reportExpiry := some 100
  holdoffExpiry := none
  noticePending := false
  indicatorMask := BitVec.allOnes 11
  indicatorHigh := false
  faultInd := false
  label := straps.setWidth 16
  straps := straps
  progress := none
  transportKey := none
  pending := []

/-- The machine right after reset: every strap low (log entry 7), the fuses unwritten as they leave the factory (R168). -/
def State.reset : State := State.afterReset 0

end Sys2Proof.Machine
end

