-- ==== Sys2Proof/Machine/Operands.lean ====
section
/-! DEFINITION. Operand forms and wire formats: bytes most significant first (00_scope.md, "Numbers and ranges"), the tunnel
header and control bodies (R174, R175), what the Classifier reads of an office frame (R2, R3, R5, R16), the management header
and the items of a reply payload (R176, R177), the indices a command may carry, and the clamping of a profile (R29). -/

namespace Sys2Proof.Machine

/-! ### Bytes -/

/-- The byte at place `i`, zero past the end. -/
def byteAt (bs : List Byte) (i : Nat) : Byte := bs.getD i 0

/-- The 16-bit field at place `i`. -/
def be16At (bs : List Byte) (i : Nat) : BitVec 16 := byteAt bs i ++ byteAt bs (i + 1)

/-- The 32-bit field at place `i`. -/
def be32At (bs : List Byte) (i : Nat) : BitVec 32 := be16At bs i ++ be16At bs (i + 2)

/-- The 48-bit field at place `i`. -/
def be48At (bs : List Byte) (i : Nat) : BitVec 48 := be32At bs i ++ be16At bs (i + 4)

/-- The `n` bytes at place `i` as one number, the first most significant. -/
def beNatAt (bs : List Byte) (i n : Nat) : Nat :=
  ((bs.drop i).take n).foldl (fun a b => a * 256 + b.toNat) 0

/-- The two bytes of a 16-bit field. -/
def bytes16 (x : BitVec 16) : List Byte := [x.extractLsb' 8 8, x.extractLsb' 0 8]

/-- The four bytes of a 32-bit field. -/
def bytes32 (x : BitVec 32) : List Byte :=
  [x.extractLsb' 24 8, x.extractLsb' 16 8, x.extractLsb' 8 8, x.extractLsb' 0 8]

/-- The six bytes of a station address. -/
def bytes48 (x : BitVec 48) : List Byte :=
  [x.extractLsb' 40 8, x.extractLsb' 32 8, x.extractLsb' 24 8, x.extractLsb' 16 8, x.extractLsb' 8 8, x.extractLsb' 0 8]

/-- The sixteen bytes of a nonce. -/
def bytes128 (x : BitVec 128) : List Byte :=
  bytes32 (x.extractLsb' 96 32) ++ bytes32 (x.extractLsb' 64 32) ++ bytes32 (x.extractLsb' 32 32)
    ++ bytes32 (x.extractLsb' 0 32)

/-- A number carried in one byte. -/
def num8 (n : Nat) : List Byte := [BitVec.ofNat 8 n]

/-- A number carried in two bytes. -/
def num16 (n : Nat) : List Byte := bytes16 (BitVec.ofNat 16 n)

/-- A number carried in four bytes. -/
def num32 (n : Nat) : List Byte := bytes32 (BitVec.ofNat 32 n)

/-- A yes or no carried in one byte (R176). -/
def bool8 (b : Bool) : List Byte := if b then [1] else [0]

/-- Frame type of a management frame (R2). -/
def typeManagement : BitVec 16 := 0x88B5

/-- Frame type of a tunnel frame (R2). -/
def typeTunnel : BitVec 16 := 0x88B6

/-- The broadcast label (00_scope.md, "bridge label"). -/
def broadcastLabel : BitVec 16 := 0xFFFF

/-- The source address of every frame the bridge builds: 02:4C:58:00 followed by the bridge label (R39, R158, R164). -/
def bridgeAddress (label : BitVec 16) : Mac := (0x024C5800 : BitVec 32) ++ label

end Sys2Proof.Machine

namespace Sys2Proof

open Machine

/-- Length of a frame on an office or cascade wire, its 4-byte check sequence included (R1, R163). -/
def EthFrame.wireLength (f : EthFrame) : Nat := f.bytes.length + 4

/-- The type field, after the two addresses. -/
def EthFrame.etherType (f : EthFrame) : BitVec 16 := be16At f.bytes 12

/-- Good check sequence and a length of 64..1518 bytes (R1, R163). -/
def EthFrame.good (f : EthFrame) (fcsOk : Bool) : Bool :=
  fcsOk && decide (64 ≤ f.wireLength) && decide (f.wireLength ≤ 1518)

/-- How many bytes the ciphertext and the 16-byte tag take (R174). -/
def Sealed.wireLength (c : Sealed) : Nat := c.body.length + 16

/-- How many bytes a carrier frame holds after its header: ciphertext, tag and what follows them (R41, R174). -/
def CarrierFrame.tail (f : CarrierFrame) : Nat := (f.cipher.map Sealed.wireLength).getD 0 + f.rest.length

/-- Length of a frame on an uplink, its check sequence included (R93). -/
def CarrierFrame.wireLength (f : CarrierFrame) : Nat := 14 + f.head.length + f.tail + 4

/-- A receive error of an uplink is a bad check sequence or a length outside 64..1560 (R93). -/
def CarrierFrame.good (f : CarrierFrame) (fcsOk : Bool) : Bool :=
  fcsOk && decide (64 ≤ f.wireLength) && decide (f.wireLength ≤ 1560)

end Sys2Proof

namespace Sys2Proof.Machine

/-! ### Tunnel frames -/

/-- The 12-byte tunnel header (R174). -/
structure TunnelHeader where
  versionKind : BitVec 8
  generation : BitVec 8
  tunnel : BitVec 16
  sequence : BitVec 32
  length : BitVec 16
  epoch : BitVec 16
  deriving DecidableEq, Repr

/-- The bytes of the header as they stand on the wire (R174). -/
def TunnelHeader.bytes (h : TunnelHeader) : List Byte :=
  [h.versionKind, h.generation] ++ bytes16 h.tunnel ++ bytes32 h.sequence ++ bytes16 h.length ++ bytes16 h.epoch

/-- The header read from the first twelve bytes after the type field; `none` where there are not twelve. -/
def TunnelHeader.ofBytes (bs : List Byte) : Option TunnelHeader :=
  if bs.length = 12 then
    some {
      versionKind := byteAt bs 0
      generation := byteAt bs 1
      tunnel := be16At bs 2
      sequence := be32At bs 4
      length := be16At bs 8
      epoch := be16At bs 10 }
  else none

/-- The kinds of tunnel frame by their codes (R174). -/
def kindData : BitVec 4 := 1
def kindProbe : BitVec 4 := 2
def kindEcho : BitVec 4 := 3
def kindOffer : BitVec 4 := 4
def kindAccept : BitVec 4 := 5
def kindAsk : BitVec 4 := 6

/-- The kind in the lower four bits of the first byte (R174). -/
def TunnelHeader.kind (h : TunnelHeader) : BitVec 4 := h.versionKind.extractLsb' 0 4

/-- The version in the upper four bits of the first byte (R174). -/
def TunnelHeader.version (h : TunnelHeader) : BitVec 4 := h.versionKind.extractLsb' 4 4

end Sys2Proof.Machine

namespace Sys2Proof

open Machine

/-- A frame of an egress queue is tagged as data or control by its kind (R99). -/
def CarrierFrame.isData (f : CarrierFrame) : Bool := (byteAt f.head 0).extractLsb' 0 4 == kindData

end Sys2Proof

namespace Sys2Proof.Machine

/-- The per-frame nonce: salt, tunnel number, generation, a zero byte, sequence number (R37, R174). -/
def frameNonce (salt : BitVec 32) (tunnel : BitVec 16) (generation : BitVec 8) (sequence : BitVec 32) : BitVec 96 :=
  salt ++ tunnel ++ generation ++ (0 : BitVec 8) ++ sequence

/-- The inbound salt: the derived salt with its most significant bit inverted (R43). -/
def inboundSalt (salt : BitVec 32) : BitVec 32 := salt ^^^ 0x80000000

/-- A tunnel number as the two-byte field carries it, the reserved part zero (R37). -/
def tunnelField (t : TunnelId) : BitVec 16 := BitVec.ofNat 16 t.val

/-- The outer frame of R39 round an enciphered body: header, ciphertext and tag, and zero bytes after the tag up to 60 bytes, of
which the addresses, the type, the header and the tag take 42. -/
def outerFrame (dst src : Mac) (kind : BitVec 4) (generation : BitVec 8) (t : TunnelId) (sequence : BitVec 32)
    (epoch : BitVec 16) (key : BitVec 256) (salt : BitVec 32) (body : List Byte) : CarrierFrame :=
  let h : TunnelHeader := {
    versionKind := (1 : BitVec 4) ++ kind
    generation := generation
    tunnel := tunnelField t
    sequence := sequence
    length := BitVec.ofNat 16 body.length
    epoch := epoch }
  { dst := dst
    src := src
    etherType := typeTunnel
    head := h.bytes
    cipher := some {
      key := key
      nonce := frameNonce salt (tunnelField t) generation sequence
      aad := h.bytes
      body := body }
    rest := List.replicate (18 - body.length) 0 }

/-- The body length of a control kind; DATA has a range instead (R175). -/
def controlLength (kind : BitVec 4) : Nat :=
  if kind = kindOffer then 18 else if kind = kindAccept then 34 else if kind = kindAsk then 2 else 4

/-- The kinds a shop may send (R41). -/
def inboundKind (kind : BitVec 4) : Bool :=
  kind == kindData || kind == kindProbe || kind == kindEcho || kind == kindAccept || kind == kindAsk

/-- A tunnel frame with `tail` bytes after its header is well formed when none of R41's conditions holds. -/
def TunnelHeader.wellFormed (h : TunnelHeader) (tail : Nat) : Bool :=
  h.version == 1
    && inboundKind h.kind
    && decide (h.tunnel.toNat ≤ 1023)
    && h.sequence != 0
    && !(h.generation == 0 && (h.kind == kindData || h.kind == kindProbe || h.kind == kindEcho))
    && !(h.generation != 0 && h.epoch != 0)
    && (if h.kind = kindData then decide (14 ≤ h.length.toNat) && decide (h.length.toNat ≤ 1514)
        else decide (h.length.toNat = controlLength h.kind))
    && decide (h.length.toNat + 16 ≤ tail)

/-- The body of an OFFER (R175). -/
def offerBody (target : BitVec 8) (nonce : BitVec 128) : List Byte := [target, 0] ++ bytes128 nonce

/-- The body of a PROBE (R175). -/
def probeBody (number : BitVec 8) : List Byte := [number, 0, 0, 0]

/-- The echoed bridge nonce of an ACCEPT (R175). -/
def acceptNonce (body : List Byte) : BitVec 128 := BitVec.ofNat 128 (beNatAt body 2 16)

/-- The shop nonce of an ACCEPT (R175). -/
def acceptShopNonce (body : List Byte) : BitVec 128 := BitVec.ofNat 128 (beNatAt body 18 16)

/-! ### What the Classifier reads -/

/-- Length of the IPv4 header in bytes, by its first byte (R3). -/
def ipHeaderLength (bs : List Byte) : Nat := ((byteAt bs 14).extractLsb' 0 4).toNat * 4

end Sys2Proof.Machine

namespace Sys2Proof

open Machine

/-- An IPv4 frame (R3). -/
def EthFrame.isIPv4 (f : EthFrame) : Bool :=
  f.etherType == 0x0800
    && (byteAt f.bytes 14).extractLsb' 4 4 == 4
    && decide (20 ≤ ipHeaderLength f.bytes)
    && decide (14 + ipHeaderLength f.bytes ≤ f.bytes.length)

end Sys2Proof

namespace Sys2Proof.Machine

/-- The 16 bits of the destination address that begin `offset` bits below its top (R5). -/
def storeKey (offset : Nat) (f : EthFrame) : Nat :=
  ((be32At f.bytes 30).toNat >>> (16 - offset)) % 65536

/-- The state a store status message states: code 1, 2 or 3 (R16). -/
def shopOfStatusCode (code : Byte) : Option ShopState :=
  match code.toNat with
  | 1 => some .opened
  | 2 => some .closing
  | 3 => some .closed
  | _ => none

/-- Whether an IPv4 frame is a store status message under the settings (R16). -/
def isStatusMessage (port statusType : BitVec 16) (f : EthFrame) : Bool :=
  let bs := f.bytes
  let udp := 14 + ipHeaderLength bs
  port != 0
    && byteAt bs 23 == 17
    && (be16At bs 20).extractLsb' 0 13 == 0
    && decide (11 ≤ (be16At bs (udp + 4)).toNat)
    && decide (udp + (be16At bs (udp + 4)).toNat ≤ bs.length)
    && be16At bs (udp + 2) == port
    && be16At bs (udp + 8) == statusType

/-- The shop state that a frame states, where it is a status message with a valid code (R16). -/
def statusMessage (port statusType : BitVec 16) (f : EthFrame) : Option ShopState :=
  if isStatusMessage port statusType f then
    shopOfStatusCode (byteAt f.bytes (14 + ipHeaderLength f.bytes + 10))
  else none

/-! ### Management frames -/

/-- The status codes of a reply (R164). -/
inductive Status where
  | ok
  | busy
  | unknownCmd
  | badArg
  | badState
  | badTable
  | wrapFail
  | locked
  | badLabel
  deriving DecidableEq, Repr

/-- The code of a status (R164). -/
def Status.code : Status → Byte
  | .ok => 0
  | .busy => 1
  | .unknownCmd => 2
  | .badArg => 3
  | .badState => 4
  | .badTable => 5
  | .wrapFail => 6
  | .locked => 7
  | .badLabel => 8

/-- A reply frame: addressed to `dst`, from the bridge under `label`, the command code with its top bit set, the status, the
return tag and the payload (R164, R176). -/
def replyFrame (dst : Mac) (label : BitVec 16) (code : Byte) (status : Status) (tag : BitVec 16) (payload : List Byte) :
    EthFrame where
  bytes := bytes48 dst ++ bytes48 (bridgeAddress label) ++ bytes16 typeManagement ++ bytes16 label
    ++ [code ||| 0x80, status.code] ++ bytes16 tag ++ num16 payload.length ++ payload

/-- A notice frame (R158, R177). -/
def noticeFrame (dst : Mac) (label : BitVec 16) (flags : BitVec 11) (depth : Nat) : EthFrame where
  bytes := bytes48 dst ++ bytes48 (bridgeAddress label) ++ bytes16 typeManagement ++ bytes16 label
    ++ [0xFF, 0] ++ bytes16 0 ++ num16 4 ++ bytes16 (flags.setWidth 16) ++ num8 depth ++ [0]

/-- A clear frame as it is sent: padded with zero bytes to 60 bytes (R54). -/
def padClear (f : EthFrame) : EthFrame := { f with bytes := f.bytes ++ List.replicate (60 - f.bytes.length) 0 }

/-- The payload length that a command code requires; `none` for a code that names no command (R176). -/
def requiredLength (code : Byte) : Option Nat :=
  match code.toNat with
  | 0x01 => some 0
  | 0x02 => some 2
  | 0x03 => some 0
  | 0x04 => some 0
  | 0x05 => some 7
  | 0x06 => some 3
  | 0x07 => some 0
  | 0x08 => some 1
  | 0x09 => some 6
  | 0x0A => some 2
  | 0x0B => some 1
  | 0x0C => some 0
  | 0x0D => some 42
  | 0x0E => some 1
  | 0x0F => some 18
  | 0x10 => some 2
  | 0x11 => some 58
  | 0x12 => some 3
  | 0x13 => some 2
  | 0x14 => some 3
  | 0x15 => some 2
  | 0x16 => some 5
  | 0x17 => some 6
  | 0x18 => some 2
  | 0x19 => some 3
  | 0x1A => some 32
  | 0x1B => some 1
  | _ => none

/-! ### Indices and enumerated values that a command carries -/

/-- A tunnel number, refused above 1023 (R21, R26, R57, R72, R78, R125, R138). -/
def tunnelArg (x : BitVec 16) : Option TunnelId := if h : x.toNat < 1024 then some ⟨x.toNat, h⟩ else none

/-- A profile number, refused above 15 (R21, R29, R30). -/
def profileArg (x : Byte) : Option ProfileId := if h : x.toNat < 16 then some ⟨x.toNat, h⟩ else none

/-- An uplink number, refused above 3 (R21, R94). -/
def uplinkArg (x : Byte) : Option UplinkId := if h : x.toNat < 4 then some ⟨x.toNat, h⟩ else none

/-- An interval entry number, refused above 47 (R9). -/
def entryArg (x : Byte) : Option EntryId := if h : x.toNat < 48 then some ⟨x.toNat, h⟩ else none

/-- A follower weight, refused above 8191 (R21). -/
def weightArg (x : BitVec 16) : Option (Fin 8192) := if h : x.toNat < 8192 then some ⟨x.toNat, h⟩ else none

/-- A yes or no byte, refused above 1 (R176). -/
def boolArg (x : Byte) : Option Bool :=
  match x.toNat with
  | 0 => some false
  | 1 => some true
  | _ => none

/-- A health role (R21, R176). -/
def roleArg (x : Byte) : Option HealthRole :=
  match x.toNat with
  | 0 => some .independent
  | 1 => some .reference
  | 2 => some .follower
  | _ => none

/-- A shop state (R138, R176). -/
def shopArg (x : Byte) : Option ShopState :=
  match x.toNat with
  | 0 => some .unknown
  | 1 => some .opened
  | 2 => some .closing
  | 3 => some .closed
  | _ => none

/-- An interval action (R9, R176). -/
def actionArg (x : Byte) : Option IntervalAction :=
  match x.toNat with
  | 0 => some .drop
  | 1 => some .tunnel
  | _ => none

/-- A notice mode (R157, R176). -/
def modeArg (x : Byte) : Option NoticeMode :=
  match x.toNat with
  | 0 => some .streaming
  | 1 => some .event
  | _ => none

/-! ### Codes that a reply carries: the position in the table of values (R176) -/

def KeyState.code : KeyState → Nat
  | .noSecret => 0
  | .bootstrap => 1
  | .unkeyed => 2
  | .offering _ => 3
  | .deriv _ => 4
  | .keyed => 5
  | .pending => 6
  | .held => 7

def ShopState.code : ShopState → Nat
  | .unknown => 0
  | .opened => 1
  | .closing => 2
  | .closed => 3

def HealthRole.code : HealthRole → Nat
  | .independent => 0
  | .reference => 1
  | .follower => 2

def HealthState.code : HealthState → Nat
  | .off => 0
  | .unseeded => 1
  | .seeding => 2
  | .normal => 3
  | .suspect => 4
  | .faultedDelay => 5
  | .faultedSilent => 6

def LinkState.code : LinkState → Nat
  | .stopped => 0
  | .up => 1
  | .errored => 2

/-- The action's code is the one WRITE_INTERVAL carries (log entry 16). -/
def IntervalAction.code : IntervalAction → Nat
  | .drop => 0
  | .tunnel => 1

def NoticeMode.code : NoticeMode → Nat
  | .streaming => 0
  | .event => 1

/-- The kind codes of fault records (R149). -/
def FaultKind.code : FaultKind → Nat
  | .delayFault => 1
  | .silentFault => 2
  | .release => 3
  | .seedError => 4
  | .reseed => 5
  | .renewFail => 6
  | .keyExhausted => 7
  | .genUnconfirmed => 8
  | .secretExhausted => 9
  | .tagFail => 10
  | .replay => 11
  | .classDrop => 12
  | .mapRange => 13
  | .uplinkDown => 14
  | .uplinkUp => 15
  | .mgmtMisdirected => 16
  | .tailDrop => 17
  | .officeOverrun => 18

/-- A fault record in a READ_FAULTS reply, 18 bytes (R177). -/
def FaultRecord.bytes (r : FaultRecord) : List Byte :=
  num8 r.kind.code ++ bool8 r.subject.isSome ++ num16 (r.subject.getD 0) ++ bytes32 r.detail ++ num16 r.count
    ++ bytes32 r.first ++ bytes32 r.last

/-- The group flags as WRITE_GROUPS lays them out: bits 1, 2 and 3 (R176). -/
def GroupFlags.byte (g : GroupFlags) : Byte :=
  (if g.u1 then 2 else 0) + (if g.u2 then 4 else 0) + (if g.u3 then 8 else 0)

/-- The group flags that a WRITE_GROUPS byte carries; the other bits are ignored (R176). -/
def GroupFlags.ofByte (x : Byte) : GroupFlags where
  u1 := x.getLsbD 1
  u2 := x.getLsbD 2
  u3 := x.getLsbD 3

/-! ### Profiles -/

/-- `x` brought into `lo..hi`: the nearest bound when it lies outside (00_scope.md, "Numbers and ranges"). -/
def clamp (lo hi x : Nat) : Nat := max lo (min hi x)

end Sys2Proof.Machine

namespace Sys2Proof

open Machine

/-- The values of a WRITE_PROFILE brought into the ranges of R28, the seed bounds exchanged when Bmin exceeds Bmax (R29). -/
def Profile.clamped (p : Profile) : Profile where
  frameLimit := clamp 1048576 4294967295 p.frameLimit
  ageLimit := clamp 60 65535 p.ageLimit
  rateBeta := clamp 1 255 p.rateBeta
  response := clamp 10 6000 p.response
  retryLimit := clamp 0 7 p.retryLimit
  derivation := clamp 1 1000 p.derivation
  retryHoldoff := clamp 1 65535 p.retryHoldoff
  grace := clamp 10 65535 p.grace
  probeOpen := clamp 10 65535 p.probeOpen
  probeClosed := clamp 10 65535 p.probeClosed
  fastBeta := clamp 1 255 p.fastBeta
  baseBeta := clamp 1 255 p.baseBeta
  slowBeta := clamp 1 255 p.slowBeta
  threshold := clamp 1 65535 p.threshold
  suspectCount := clamp 1 15 p.suspectCount
  missLimit := clamp 1 15 p.missLimit
  seedCount := clamp 1 16 p.seedCount
  seedMin := min (clamp 1 65535 p.seedMin) (clamp 1 65535 p.seedMax)
  seedMax := max (clamp 1 65535 p.seedMin) (clamp 1 65535 p.seedMax)
  reseedBand := clamp 1 65535 p.reseedBand
  settleThreshold := clamp 0 65535 p.settleThreshold
  settleSamples := clamp 1 255 p.settleSamples
  releasePct := clamp 1 127 p.releasePct
  dormancyTimeout := clamp 60 65535 p.dormancyTimeout
  dataLimit := clamp 1 64 p.dataLimit

/-- The profile fields of a WRITE_PROFILE payload, after the profile number (R176). -/
def Profile.ofPayload (bs : List Byte) : Profile where
  frameLimit := beNatAt bs 1 4
  ageLimit := beNatAt bs 5 2
  rateBeta := beNatAt bs 7 1
  response := beNatAt bs 8 2
  retryLimit := beNatAt bs 10 1
  derivation := beNatAt bs 11 2
  retryHoldoff := beNatAt bs 13 2
  grace := beNatAt bs 15 2
  probeOpen := beNatAt bs 17 2
  probeClosed := beNatAt bs 19 2
  fastBeta := beNatAt bs 21 1
  baseBeta := beNatAt bs 22 1
  slowBeta := beNatAt bs 23 1
  threshold := beNatAt bs 24 2
  suspectCount := beNatAt bs 26 1
  missLimit := beNatAt bs 27 1
  seedCount := beNatAt bs 28 1
  seedMin := beNatAt bs 29 2
  seedMax := beNatAt bs 31 2
  reseedBand := beNatAt bs 33 2
  settleThreshold := beNatAt bs 35 2
  settleSamples := beNatAt bs 37 1
  releasePct := beNatAt bs 38 1
  dormancyTimeout := beNatAt bs 39 2
  dataLimit := beNatAt bs 41 1

/-- The stored fields of a profile as a reply carries them (R29, R30, R176). -/
def Profile.bytes (p : Profile) : List Byte :=
  num32 p.frameLimit ++ num16 p.ageLimit ++ num8 p.rateBeta ++ num16 p.response ++ num8 p.retryLimit
    ++ num16 p.derivation ++ num16 p.retryHoldoff ++ num16 p.grace ++ num16 p.probeOpen ++ num16 p.probeClosed
    ++ num8 p.fastBeta ++ num8 p.baseBeta ++ num8 p.slowBeta ++ num16 p.threshold ++ num8 p.suspectCount
    ++ num8 p.missLimit ++ num8 p.seedCount ++ num16 p.seedMin ++ num16 p.seedMax ++ num16 p.reseedBand
    ++ num16 p.settleThreshold ++ num8 p.settleSamples ++ num8 p.releasePct ++ num16 p.dormancyTimeout
    ++ num8 p.dataLimit

/-- The payload of a WRITE_TUNNEL: a field is carried when its present flag is set (R176). -/
def TunnelWrite.ofPayload (bs : List Byte) : TunnelWrite :=
  let present := byteAt bs 2
  { tunnel := be16At bs 0
    enabled := if present.getLsbD 0 then some (byteAt bs 3) else none
    profile := if present.getLsbD 1 then some (byteAt bs 4) else none
    peer := if present.getLsbD 2 then some (be48At bs 8) else none
    role := if present.getLsbD 3 then some (byteAt bs 5) else none
    reference := if present.getLsbD 4 then some (be16At bs 14) else none
    weight := if present.getLsbD 5 then some (be16At bs 16) else none
    shadowGroup := if present.getLsbD 6 then some (byteAt bs 6) else none
    snoop := if present.getLsbD 7 then some (byteAt bs 7) else none }

end Sys2Proof

namespace Sys2Proof.Machine

/-- The 56-byte block unwrapped under the transport key for a tunnel: it succeeds for the key and the tunnel the block was made
for, and never without a transport key (R57). -/
def unwrap (key : Option (BitVec 256)) (tunnel : BitVec 16) (block : Option Wrapping) : Option MasterSecret :=
  match key, block with
  | some k, some w =>
    if w.key = k ∧ w.tunnel = tunnel then
      some { secret := w.content.extractLsb' 64 256, epoch := w.content.extractLsb' 48 16 }
    else none
  | _, _ => none

end Sys2Proof.Machine
end

