-- ==== Sys2Proof/WellFormed.lean ====
section
/-! DEFINITION. Which commands are well formed: their operands describe an event that can occur. Every meaning is total all the
same; an ill-formed command is one that no sender can send. -/

namespace Sys2Proof

open Machine

/-- An office frame's annotation of a wrapped block stands only where the frame has room for the block: addresses, type,
management header, tunnel number and 56 bytes. -/
def EthFrame.wellFormed (f : EthFrame) : Bool :=
  f.wrap.isNone || decide (80 ≤ f.bytes.length)

/-- A carrier frame has at most twelve header bytes, and nothing after an incomplete header. -/
def CarrierFrame.wellFormed (f : CarrierFrame) : Bool :=
  decide (f.head.length ≤ 12) && (f.head.length == 12 || (f.rest.isEmpty && f.cipher.isNone))

/-- A command taken under the broadcast label came in a good management frame with that label, from the header's source and
with its return tag. -/
def CmdHeader.wellFormed (h : CmdHeader) : Bool :=
  match h.broadcast with
  | none => true
  | some f => f.wellFormed && f.good true && f.etherType == typeManagement && be16At f.bytes 14 == broadcastLabel
      && be48At f.bytes 6 == h.source && be16At f.bytes 18 == h.tag

/-- The values of a WRITE_PROFILE fit the widths of its payload (R176). -/
def Profile.wireWellFormed (p : Profile) : Bool :=
  decide (p.frameLimit < 4294967296)
    && [p.rateBeta, p.retryLimit, p.fastBeta, p.baseBeta, p.slowBeta, p.suspectCount, p.missLimit, p.seedCount,
        p.settleSamples, p.releasePct, p.dataLimit].all (fun x => decide (x < 256))
    && [p.ageLimit, p.response, p.derivation, p.retryHoldoff, p.grace, p.probeOpen, p.probeClosed, p.threshold, p.seedMin,
        p.seedMax, p.reseedBand, p.settleThreshold, p.dormancyTimeout].all (fun x => decide (x < 65536))

/-- Well-formed commands. -/
def Instr.wellFormed : Instr → Bool
  | .officeFrameArrival a => a.frame.wellFormed
  | .lookupTakeFrame => true
  | .uplinkFrameReceive _ f _ _ => f.wellFormed
  | .carrierLoss _ => true
  | .carrierReturn _ => true
  | .inboundTunnelFrame _ => true
  | .derivationStart => true
  | .derivationComplete _ => true
  | .responseExpiry _ => true
  | .retryHoldoffExpiry _ => true
  | .jitterDelayExpiry _ => true
  | .graceExpiry _ => true
  | .ageIncrement _ => true
  | .rateIntervalEnd => true
  | .probeExpiry _ _ => true
  | .dormancyExpiry _ => true
  | .dormantEntry _ => true
  | .grant _ => true
  | .uplinkTxComplete _ => true
  | .groupDiscard _ => true
  | .officeTxStart => true
  | .officeTxComplete => true
  | .cascadeTxStart => true
  | .cascadeTxComplete => true
  | .cascadeLinkDown => true
  | .cascadeLinkUp => true
  | .cascadeFrameReceive f _ => f.wellFormed
  | .reportExpiry => true
  | .noticeHoldoffExpiry => true
  | .identify h => h.wellFormed
  | .setLabel h _ => h.wellFormed
  | .readCounters h => h.wellFormed
  | .ackReset h => h.wellFormed
  | .setNotice h _ _ _ _ => h.wellFormed
  | .setIndicator h _ _ => h.wellFormed
  | .readSummary h => h.wellFormed
  | .readFaults h _ => h.wellFormed
  | .writeInterval h _ _ _ _ => h.wellFormed
  | .readInterval h _ _ => h.wellFormed
  | .writeGroups h _ => h.wellFormed
  | .applyTables h => h.wellFormed
  | .intervalTableCopy => true
  | .groupSwap => true
  | .applyTablesComplete => true
  | .writeProfile h _ p => h.wellFormed && p.wireWellFormed
  | .readProfile h _ => h.wellFormed
  | .writeTunnel h _ => h.wellFormed
  | .readTunnel h _ => h.wellFormed
  | .installSecret h _ _ => h.wellFormed
  | .eraseKeysGenerations h _ => h.wellFormed
  | .eraseKeysAll h _ => h.wellFormed
  | .renewNow h _ => h.wellFormed
  | .setShopState h _ _ => h.wellFormed
  | .reseed h _ => h.wellFormed
  | .setClassify h _ _ _ => h.wellFormed
  | .setJitter h _ _ _ => h.wellFormed
  | .setRetention h _ _ => h.wellFormed
  | .uplinkStart h _ _ => h.wellFormed
  | .uplinkStop h _ _ => h.wellFormed
  | .setTransportKey h _ => h.wellFormed
  | .resetLevel1 h => h.wellFormed
  | .resetLevel2 h => h.wellFormed
  | .resetLevel2Complete => true
  | .resetLevel3 h => h.wellFormed
  | .resetLevel3Perform _ => true
  | .pinResetAssert => true
  | .pinResetRelease _ => true
  | .tick => true

end Sys2Proof
end

