-- ==== Sys2Proof/Decode.lean ====
section
/-! DEFINITION. The decoder of table words, and the commands as management frames carry them.

No row of spec/opcode_table.json gives bits (each row's "fields" is empty), so no word spells a command. The commands that head
office sends are spelled by the bytes of a management frame (R176): `commandOfFrame` reads one and `frameOfCommand` writes one.
The machine itself reads such frames in Machine/Agent.lean, and tunnel headers by `Machine.TunnelHeader.ofBytes`. -/

namespace Sys2Proof

open Machine

/-- The command that a word spells by the table's bits: none, since no row of the table gives bits. -/
def decodeTableWord (_nbits _w : Nat) : Option Instr := none

/-- What a management frame carries beside its payload: under the broadcast label, the frame itself too. -/
def headerOfFrame (f : EthFrame) (prov : Bool) : CmdHeader where
  source := be48At f.bytes 6
  tag := be16At f.bytes 18
  prov := prov
  broadcast := if be16At f.bytes 14 = broadcastLabel then some f else none

/-- The command of a code, from a payload of at least the required length (R176). A scope, request or level outside the listed
values names no row of the table. -/
def commandOfPayload (h : CmdHeader) (code : Byte) (pl : List Byte) (wrap : Option Wrapping) : Option Instr :=
  match code.toNat with
  | 0x01 => some (.identify h)
  | 0x02 => some (.setLabel h (be16At pl 0))
  | 0x03 => some (.readCounters h)
  | 0x04 => some (.ackReset h)
  | 0x05 => some (.setNotice h (byteAt pl 0) (be16At pl 1) (be16At pl 3) (be16At pl 5))
  | 0x06 => some (.setIndicator h (be16At pl 0) (byteAt pl 2))
  | 0x07 => some (.readSummary h)
  | 0x08 => some (.readFaults h (byteAt pl 0))
  | 0x09 => some (.writeInterval h (byteAt pl 0) (be16At pl 1) (byteAt pl 3) (be16At pl 4))
  | 0x0A => some (.readInterval h (byteAt pl 0) (byteAt pl 1))
  | 0x0B => some (.writeGroups h (byteAt pl 0))
  | 0x0C => some (.applyTables h)
  | 0x0D => some (.writeProfile h (byteAt pl 0) (Profile.ofPayload pl))
  | 0x0E => some (.readProfile h (byteAt pl 0))
  | 0x0F => some (.writeTunnel h (TunnelWrite.ofPayload pl))
  | 0x10 => some (.readTunnel h (be16At pl 0))
  | 0x11 => some (.installSecret h (be16At pl 0) wrap)
  | 0x12 =>
    match (byteAt pl 2).toNat with
    | 0 => some (.eraseKeysGenerations h (be16At pl 0))
    | 1 => some (.eraseKeysAll h (be16At pl 0))
    | _ => none
  | 0x13 => some (.renewNow h (be16At pl 0))
  | 0x14 => some (.setShopState h (be16At pl 0) (byteAt pl 2))
  | 0x15 => some (.reseed h (be16At pl 0))
  | 0x16 => some (.setClassify h (byteAt pl 0) (be16At pl 1) (be16At pl 3))
  | 0x17 => some (.setJitter h (be16At pl 0) (be16At pl 2) (be16At pl 4))
  | 0x18 => some (.setRetention h (byteAt pl 0) (byteAt pl 1))
  | 0x19 =>
    match (byteAt pl 1).toNat with
    | 0 => some (.uplinkStop h (byteAt pl 0) (byteAt pl 2))
    | 1 => some (.uplinkStart h (byteAt pl 0) (byteAt pl 2))
    | _ => none
  | 0x1A => some (.setTransportKey h (BitVec.ofNat 256 (beNatAt pl 0 32)))
  | 0x1B =>
    match (byteAt pl 0).toNat with
    | 1 => some (.resetLevel1 h)
    | 2 => some (.resetLevel2 h)
    | 3 => some (.resetLevel3 h)
    | _ => none
  | _ => none

/-- The command that a management frame carries: none where the frame is malformed (R162), its code names no command, its payload
is short, or it names no row of the table (R164). -/
def commandOfFrame (f : EthFrame) (prov : Bool) : Option Instr :=
  let n := (be16At f.bytes 20).toNat
  if f.bytes.length < 22 + n then none
  else
    match requiredLength (byteAt f.bytes 16) with
    | none => none
    | some m =>
      if n < m then none
      else commandOfPayload (headerOfFrame f prov) (byteAt f.bytes 16) ((f.bytes.drop 22).take n) f.wrap

/-- The payload of WRITE_TUNNEL (R176): an absent field's bytes are zero. -/
def TunnelWrite.wireBytes (w : TunnelWrite) : List Byte :=
  let bit (b : Bool) (k : Nat) : Byte := if b then BitVec.twoPow 8 k else 0
  bytes16 w.tunnel
    ++ [bit w.enabled.isSome 0 ||| bit w.profile.isSome 1 ||| bit w.peer.isSome 2 ||| bit w.role.isSome 3
        ||| bit w.reference.isSome 4 ||| bit w.weight.isSome 5 ||| bit w.shadowGroup.isSome 6 ||| bit w.snoop.isSome 7,
      w.enabled.getD 0, w.profile.getD 0, w.role.getD 0, w.shadowGroup.getD 0, w.snoop.getD 0]
    ++ bytes48 (w.peer.getD 0) ++ bytes16 (w.reference.getD 0) ++ bytes16 (w.weight.getD 0)

/-- The bytes of a 32-byte key, the first most significant. -/
def bytes256 (x : BitVec 256) : List Byte := bytes128 (x.extractLsb' 128 128) ++ bytes128 (x.extractLsb' 0 128)

/-- Header, code and payload of a command row (R176); none for the rows that are events. The block of an INSTALL_SECRET is opaque
to this manual: its bytes are written as zeros and what it wraps travels with the frame. -/
def Instr.wire : Instr → Option (CmdHeader × Byte × List Byte)
  | .identify h => some (h, 0x01, [])
  | .setLabel h label => some (h, 0x02, bytes16 label)
  | .readCounters h => some (h, 0x03, [])
  | .ackReset h => some (h, 0x04, [])
  | .setNotice h mode interval holdoff mask => some (h, 0x05, [mode] ++ bytes16 interval ++ bytes16 holdoff ++ bytes16 mask)
  | .setIndicator h mask polarity => some (h, 0x06, bytes16 mask ++ [polarity])
  | .readSummary h => some (h, 0x07, [])
  | .readFaults h n => some (h, 0x08, [n])
  | .writeInterval h entry separator action base => some (h, 0x09, [entry] ++ bytes16 separator ++ [action] ++ bytes16 base)
  | .readInterval h copy entry => some (h, 0x0A, [copy, entry])
  | .writeGroups h flags => some (h, 0x0B, [flags])
  | .applyTables h => some (h, 0x0C, [])
  | .writeProfile h profile values => some (h, 0x0D, [profile] ++ values.bytes)
  | .readProfile h profile => some (h, 0x0E, [profile])
  | .writeTunnel h w => some (h, 0x0F, w.wireBytes)
  | .readTunnel h tunnel => some (h, 0x10, bytes16 tunnel)
  | .installSecret h tunnel _ => some (h, 0x11, bytes16 tunnel ++ List.replicate 56 0)
  | .eraseKeysGenerations h tunnel => some (h, 0x12, bytes16 tunnel ++ [0])
  | .eraseKeysAll h tunnel => some (h, 0x12, bytes16 tunnel ++ [1])
  | .renewNow h tunnel => some (h, 0x13, bytes16 tunnel)
  | .setShopState h tunnel shop => some (h, 0x14, bytes16 tunnel ++ [shop])
  | .reseed h tunnel => some (h, 0x15, bytes16 tunnel)
  | .setClassify h offset port statusType => some (h, 0x16, [offset] ++ bytes16 port ++ bytes16 statusType)
  | .setJitter h seed base range => some (h, 0x17, bytes16 seed ++ bytes16 base ++ bytes16 range)
  | .setRetention h bank segment => some (h, 0x18, [bank, segment])
  | .uplinkStart h uplink flags => some (h, 0x19, [uplink, 1, flags])
  | .uplinkStop h uplink flags => some (h, 0x19, [uplink, 0, flags])
  | .setTransportKey h key => some (h, 0x1A, bytes256 key)
  | .resetLevel1 h => some (h, 0x1B, [1])
  | .resetLevel2 h => some (h, 0x1B, [2])
  | .resetLevel3 h => some (h, 0x1B, [3])
  | .officeFrameArrival _ | .lookupTakeFrame | .uplinkFrameReceive _ _ _ _ | .carrierLoss _ | .carrierReturn _
  | .inboundTunnelFrame _ | .derivationStart | .derivationComplete _ | .responseExpiry _ | .retryHoldoffExpiry _
  | .jitterDelayExpiry _ | .graceExpiry _ | .ageIncrement _ | .rateIntervalEnd | .probeExpiry _ _ | .dormancyExpiry _
  | .dormantEntry _ | .grant _ | .uplinkTxComplete _ | .groupDiscard _ | .officeTxStart | .officeTxComplete
  | .cascadeTxStart | .cascadeTxComplete | .cascadeLinkDown | .cascadeLinkUp | .cascadeFrameReceive _ _ | .reportExpiry
  | .noticeHoldoffExpiry | .intervalTableCopy | .groupSwap | .applyTablesComplete | .resetLevel2Complete
  | .resetLevel3Perform _ | .pinResetAssert | .pinResetRelease _ | .tick => none

/-- What the block of an INSTALL_SECRET wraps. -/
def Instr.wrapping : Instr → Option Wrapping
  | .installSecret _ _ block => block
  | _ => none

/-- The management frame, to `dst` and under `label`, that carries a command, padded with zeros to the least length (R1, R176). -/
def frameOfCommand (dst : Mac) (label : BitVec 16) (c : Instr) : Option EthFrame :=
  c.wire.map fun w =>
    let bs := bytes48 dst ++ bytes48 w.1.source ++ bytes16 typeManagement ++ bytes16 label ++ [w.2.1, 0] ++ bytes16 w.1.tag
      ++ num16 w.2.2.length ++ w.2.2
    { bytes := bs ++ List.replicate (60 - bs.length) 0, wrap := c.wrapping }

end Sys2Proof
end

