-- ==== Sys2Proof/Machine/Flags.lean ====
section
/-! DEFINITION. The summary flags (R152), the mode in force (R159), the level of the indicator pin (R161), and the saturating
counters (R4, R27, R52, R53, R97, R173). -/

namespace Sys2Proof.Machine

/-- A 32-bit counter raised by one, staying at 2^32 - 1 once it is there. -/
def satInc (c : BitVec 32) : BitVec 32 := if c = BitVec.allOnes 32 then c else c + 1

/-- A 32-bit counter raised by `n`, saturating. -/
def satAdd (c : BitVec 32) (n : Nat) : BitVec 32 := BitVec.ofNat 32 (min (c.toNat + n) 4294967295)

/-- The number of the RESET flag (R152). -/
def flagReset : Nat := 0

/-- The number of the OVERFLOW flag (R152). -/
def flagOverflow : Nat := 10

/-- The flag of number `n` as a mask (R176). -/
def flagBit (n : Nat) : BitVec 11 := BitVec.ofNat 11 (2 ^ n)

/-- The number of the summary flag that a kind sets (R149, R152). -/
def FaultKind.flag : FaultKind → Nat
  | .delayFault => 1
  | .silentFault => 1
  | .release => 2
  | .seedError => 3
  | .reseed => 3
  | .renewFail => 4
  | .keyExhausted => 4
  | .genUnconfirmed => 4
  | .secretExhausted => 4
  | .tagFail => 5
  | .replay => 5
  | .classDrop => 6
  | .mapRange => 6
  | .uplinkDown => 7
  | .uplinkUp => 7
  | .mgmtMisdirected => 8
  | .tailDrop => 9
  | .officeOverrun => 9

/-- RESET is set. -/
def State.resetFlag (s : State) : Bool := s.flags.getLsbD flagReset

/-- The mode in force: streaming while RESET is set, else the mode setting (R159). -/
def State.modeInForce (s : State) : NoticeMode := if s.resetFlag then .streaming else s.noticeMode

/-- Some flag of the event mask is set (R157, R159, R160). -/
def State.maskedFlagSet (s : State) : Bool := s.flags &&& s.eventMask != 0

/-- A flag of the event mask that was clear in `old` is set in `s` (R160). Any one of them counts, OVERFLOW beside a kind's flag
that was set before included (DESIGN CHOICE, log entry 21). -/
def State.newlyMasked (s : State) (old : BitVec 11) : Bool := s.flags &&& ~~~old &&& s.eventMask != 0

/-- The level at which FAULT_IND stands: high while RST_N is low; otherwise its active level exactly when the summary holds a
flag of the indicator mask (R161). -/
def State.indicatorLevel (s : State) : Bool :=
  if s.rstLow then true
  else if s.flags &&& s.indicatorMask != 0 then s.indicatorHigh else !s.indicatorHigh

/-- The pin follows the flags and the settings (R161). -/
def State.driveIndicator (s : State) : State := { s with faultInd := s.indicatorLevel }

/-- The summary flags become `f`, and the pin follows (R152, R161). -/
def State.setFlags (s : State) (f : BitVec 11) : State := { s with flags := f }.driveIndicator

end Sys2Proof.Machine
end

