-- ==== Sys2Proof/Machine/Ops.lean ====
section
/-! DEFINITION. The shared operations over the state: access to the entries, the frame buffer (R98), the Fault Reporter's post
and the notices (R149 to R160), the office transmit queue (R53), and the cascade forwarding list (R163). -/

namespace Sys2Proof.Machine

/-! ### Access -/

/-- The bridge acts while RST_N is high; while it is low it takes no frame, no command and no event (R171). -/
def State.live (s : State) (f : State → State) : State := if s.rstLow then s else f s

/-- The tunnel entry `t`. -/
def State.tun (s : State) (t : TunnelId) : Tunnel := s.tunnels[t]

/-- The tunnel entry `t` replaced. -/
def State.setTun (s : State) (t : TunnelId) (x : Tunnel) : State := { s with tunnels := s.tunnels.set t x }

/-- The tunnel entry `t` changed by `f`. -/
def State.modTun (s : State) (t : TunnelId) (f : Tunnel → Tunnel) : State := s.setTun t (f (s.tun t))

/-- The health record of tunnel `t` changed by `f`. -/
def State.modHealth (s : State) (t : TunnelId) (f : Health → Health) : State :=
  s.modTun t fun x => { x with health := f x.health }

/-- The counters of tunnel `t` changed by `f` (R27). -/
def State.modTunCounters (s : State) (t : TunnelId) (f : TunnelCounters → TunnelCounters) : State :=
  s.modTun t fun x => { x with counters := f x.counters }

/-- The profile that tunnel `t` names, read at the moment of use (section 2.4). -/
def State.prof (s : State) (t : TunnelId) : Profile := s.profiles[(s.tun t).cfg.profile]

/-- The uplink `u`. -/
def State.uplink (s : State) (u : UplinkId) : Uplink := s.uplinks[u]

/-- The uplink `u` replaced. -/
def State.setUplink (s : State) (u : UplinkId) (x : Uplink) : State := { s with uplinks := s.uplinks.set u x }

/-- The uplink `u` changed by `f`. -/
def State.modUplink (s : State) (u : UplinkId) (f : Uplink → Uplink) : State := s.setUplink u (f (s.uplink u))

/-- The waiting list of group `g` (R102). -/
def State.list (s : State) (g : UplinkId) : List TunnelId := s.waiting[g]

/-- The waiting list of group `g` replaced. -/
def State.setList (s : State) (g : UplinkId) (l : List TunnelId) : State := { s with waiting := s.waiting.set g l }

/-- The device counters changed by `f`. -/
def State.modCounters (s : State) (f : DeviceCounters → DeviceCounters) : State := { s with counters := f s.counters }

/-- Every tunnel number, ascending. -/
def allTunnels : List TunnelId := List.finRange 1024

/-! ### Time -/

/-- The tick `d` ticks from now, modulo 2^32 (R81). -/
def State.after (s : State) (d : Nat) : Tick := s.tick + BitVec.ofNat 32 d

/-- An expiry is taken once the tick counter has reached it (R81; log entry 10). Every duration is below 2^31 ticks. -/
def State.reached (s : State) (e : Option Tick) : Bool :=
  match e with
  | none => false
  | some x => decide ((s.tick - x).toNat < 2147483648)

/-- The measurement clock brought to the part `sub` of the current tick, never back (R115; log entry 6). -/
def State.clockAt (s : State) (sub : Fin 100) : State :=
  let base : BitVec 32 := s.tick * 100
  { s with clock := base + BitVec.ofNat 32 (max (s.clock - base).toNat sub.val) }

/-! ### The frame buffer -/

/-- The slots in use: the frames of every egress queue, of the office transmit queue and in transmission (R98). A granted frame so
keeps its slot until its transmission ends: R98 says so, and R15's table says that a grant frees the slot with the queue position.
The model follows R98 (DEDUCED, log entry 23). -/
def State.usedSlots (s : State) : Nat :=
  (s.tunnels.toList.map fun t => t.egress.length).sum + s.officeQueue.length + s.officeTx.toList.length
    + (s.uplinks.toList.filter fun u => u.tx.isSome).length

/-- The free slots of the 4096 (R98). -/
def State.freeSlots (s : State) : Nat := 4096 - s.usedSlots

/-- The office transmit queue holds fewer than 512 frames and the buffer more than `reserve` free slots (R53). -/
def State.officeRoom (s : State) (reserve : Nat) : Bool :=
  decide (s.officeQueue.length < 512) && decide (reserve < s.freeSlots)

/-- A frame joins the tail of the office transmit queue (R53). -/
def State.officePush (s : State) (k : OfficeKind) (f : EthFrame) : State :=
  { s with officeQueue := s.officeQueue ++ [{ kind := k, frame := f }] }

/-! ### Fault records -/

/-- A record is the one that a post of this kind and subject matches (R150). -/
def FaultRecord.isFor (r : FaultRecord) (k : FaultKind) (subject : Option Nat) : Bool :=
  decide (r.kind = k) && decide (r.subject = subject)

/-- A record updated in place by a post: count, last tick and detail (R150). -/
def FaultRecord.again (r : FaultRecord) (detail : BitVec 32) (now : Tick) : FaultRecord :=
  { r with count := min (r.count + 1) 65535, last := now, detail := detail }

/-- The fault queue after a post, and whether the post was kept (R150, R151). -/
def queuePost (k : FaultKind) (subject : Option Nat) (detail : BitVec 32) (now : Tick) (q : List FaultRecord) :
    List FaultRecord × Bool :=
  if q.any (fun r : FaultRecord => r.isFor k subject) then
    (q.map fun r : FaultRecord => if r.isFor k subject then r.again detail now else r, true)
  else if q.length < 64 then
    (q ++ [{ kind := k, subject := subject, detail := detail, count := 1, first := now, last := now }], true)
  else (q, false)

/-- A post's effect on the queue, the overflow count, the flags and the pin (R150, R151, R152, R161). -/
def recordPost (k : FaultKind) (subject : Option Nat) (detail : BitVec 32) (s : State) : State :=
  let r := queuePost k subject detail s.tick s.faults
  if r.2 then { s with faults := r.1 }.setFlags (s.flags ||| flagBit k.flag)
  else { s with overflow := min (s.overflow + 1) 65535 }.setFlags (s.flags ||| flagBit k.flag ||| flagBit flagOverflow)

/-! ### Notices -/

/-- The expiries that the sending of a notice arms in event mode (R160). -/
def armNotice (s : State) : State :=
  { s with holdoffExpiry := some (s.after s.noticeHoldoff), reportExpiry := some (s.after s.reportInterval) }

/-- The count of an OFFICE_OVERRUN drop (R53). -/
def countOverrun (s : State) : State := s.modCounters fun c => { c with officeOverrun := satInc c.officeOverrun }

/-- A notice refused by the office transmit queue: counted and recorded, and not sent again (R53, R158). The post finds the
hold-off armed by the sending, so a flag it sets leaves a notice pending (R160; log entry 12). -/
def dropNotice (s : State) : State :=
  let s1 := recordPost .officeOverrun none (BitVec.ofNat 32 s.freeSlots) (countOverrun s)
  if s1.modeInForce = .event ∧ s1.newlyMasked s.flags then { s1 with noticePending := true } else s1

/-- A notice is built and offered to the office transmit queue; without a station address nothing is offered (R158). -/
def sendNotice (s : State) : State :=
  match s.station with
  | none => s
  | some dst =>
    if s.officeRoom 0 then s.officePush .notice (noticeFrame dst s.label s.flags s.faults.length)
    else dropNotice s

/-- In event mode, a flag of the mask that becomes set sends a notice, or leaves one pending under the hold-off (R160). -/
def noticeOnSet (s : State) : State :=
  match s.holdoffExpiry with
  | none => sendNotice (armNotice s)
  | some _ => { s with noticePending := true }

/-- A post at the Fault Reporter (R150): the record, the flags, the pin and the notice logic. The notice logic looks once at all
the flags that the post has newly set, the kind's and OVERFLOW together (R151, R160): one of them in the event mask is enough, and
two make one notice (DESIGN CHOICE, log entry 21). -/
def post (k : FaultKind) (subject : Option Nat) (detail : BitVec 32) (s : State) : State :=
  let s1 := recordPost k subject detail s
  if s1.modeInForce = .event ∧ s1.newlyMasked s.flags then noticeOnSet s1 else s1

/-- A post about tunnel `t`. -/
def postTunnel (k : FaultKind) (t : TunnelId) (detail : BitVec 32) (s : State) : State := post k (some t.val) detail s

/-! ### The office transmit queue and the cascade list -/

/-- A frame refused by the office transmit queue: counted, and recorded with the free slots at the drop (R53). -/
def officeOverrun (s : State) : State := post .officeOverrun none (BitVec.ofNat 32 s.freeSlots) (countOverrun s)

/-- A deciphered clear frame is offered: it needs more than 64 free slots (R53). -/
def offerClear (f : EthFrame) (s : State) : State :=
  if s.officeRoom 64 then s.officePush .clear f else officeOverrun s

/-- A reply or a cascade frame is offered: it needs one free slot (R53). -/
def offerReserved (k : OfficeKind) (f : EthFrame) (s : State) : State :=
  if s.officeRoom 0 then s.officePush k f else officeOverrun s

/-- `n` frames counted in CASCADE_DROP (R163). -/
def countCascadeDrop (n : Nat) (s : State) : State :=
  s.modCounters fun c => { c with cascadeDrop := satAdd c.cascadeDrop n }

/-- A management frame is forwarded: it joins the cascade forwarding list while the link is up, or is dropped when the list
holds 16 frames (R163). Also says whether it joined. -/
def cascadeForward (f : EthFrame) (s : State) : State × Bool :=
  if s.cascadeUp then
    if s.cascadeList.length < 16 then
      ({ s with cascadeList := s.cascadeList ++ [{ frame := f, awaited := false }] }, true)
    else (countCascadeDrop 1 s, false)
  else (s, false)

end Sys2Proof.Machine
end

