-- ==== Sys2Proof/Machine/Egress.lean ====
section
/-! DEFINITION. What the Egress Scheduler does to a tunnel's queue and to the waiting lists (R98 to R103), and the entry into
Dormant that the last frame leaving a queue may bring (R141, R142). -/

namespace Sys2Proof.Machine

/-! ### Parts of a tunnel entry that several events change together -/

/-- The health record on entry into Off: everything at its reset value but the probe number (R110, R111). -/
def Health.toOff (h : Health) : Health := { Health.reset with probe := h.probe }

/-- The health record on entry into Seeding; an outstanding probe and the probe expiry are kept (R119). -/
def Health.toSeeding (h : Health) : Health :=
  { h with state := .seeding, seeds := [], snapshot := none, miss := 0, suspect := 0, settle := 0, comp := 0 }

/-- The current and previous generations discarded, with the renewal bookkeeping, R and the sample count (R20, R23, R36, R57,
R78, R82). -/
def Tunnel.dropGenerations (x : Tunnel) : Tunnel :=
  { x with
    cur := none, prev := none, nonce := none, attempts := 0, holdoff := none, jitter := none, grace := none
    rate := 0, sample := 0 }

/-- The egress queue holds this many data frames (R99). -/
def Tunnel.dataFrames (x : Tunnel) : Nat := (x.egress.filter CarrierFrame.isData).length

/-! ### Entering Dormant -/

/-- A tunnel's bank (R31). -/
def bankOf (t : TunnelId) : Nat := t.val / 128

/-- A tunnel's segment (R31). -/
def segmentOf (t : TunnelId) : Nat := t.val % 128 / 16

/-- A tunnel is retained when neither its bank's flag nor its segment's is masked (R32). A set bit masks (R176). -/
def State.retained (s : State) (t : TunnelId) : Bool :=
  !s.bankMask.getLsbD (bankOf t) && !s.segmentMask.getLsbD (segmentOf t)

/-- The entry conditions of Dormant: KEYED or UNKEYED, and an empty egress queue (R141). -/
def Tunnel.mayRest (x : Tunnel) : Bool :=
  (x.keyState == .keyed || x.keyState == .unkeyed) && x.egress.isEmpty

/-- The entry into Dormant (R142): the keys of a KEYED tunnel are erased when it is not retained or its renew-before-dormancy is
set, and health becomes Off. -/
def Tunnel.enterDormant (retained : Bool) (x : Tunnel) : Tunnel :=
  let y := { x with dormant := true, dormancyExpiry := none, dormancyDue := false }
  let z := if x.keyState = .keyed ∧ (retained = false ∨ x.renewBefore = true) then
      { y.dropGenerations with keyState := .unkeyed } else y
  { z with health := z.health.toOff }

/-- A waiting tunnel enters Dormant at the first event at which both conditions hold (R141). -/
def enterIfWaiting (t : TunnelId) (s : State) : State :=
  if (s.tun t).dormancyDue && (s.tun t).mayRest then s.modTun t (Tunnel.enterDormant (s.retained t)) else s

/-! ### Groups -/

/-- The start uplink of the group that `u` belongs to (R101). -/
def groupStart (fl : GroupFlags) (u : UplinkId) : UplinkId :=
  match u.val with
  | 0 => 0
  | 1 => if fl.u1 then 0 else 1
  | 2 => if fl.u2 then (if fl.u1 then 0 else 1) else 2
  | _ => if fl.u3 then (if fl.u2 then (if fl.u1 then 0 else 1) else 2) else 3

/-- The members of group `g`, by uplink number; none where `g` is no start uplink (R101). -/
def State.members (s : State) (g : UplinkId) : List UplinkId :=
  (List.finRange 4).filter fun u => groupStart s.groupFlags u = g

/-- An uplink is Up. -/
def State.isUp (s : State) (u : UplinkId) : Bool := (s.uplink u).link == .up

/-- A group is live while at least one of its members is Up (R101). -/
def State.groupLive (s : State) (g : UplinkId) : Bool := (s.members g).any s.isUp

/-- A member is free when it is Up and has no frame in transmission (R103). -/
def State.isFree (s : State) (u : UplinkId) : Bool := s.isUp u && (s.uplink u).tx.isNone

/-- An Errored uplink with DiscardOnError set (R105). -/
def State.isDiscarding (s : State) (u : UplinkId) : Bool :=
  (s.uplink u).link == .errored && (s.uplink u).discardOnError

/-- The members of group `g` in the order the arbiter serves them: cyclically after the one the pointer names, or from the start
uplink (R103). -/
def State.roundRobin (s : State) (g : UplinkId) : List UplinkId :=
  match s.pointers[g] with
  | none => s.members g
  | some p => (s.members g).filter (fun u => p < u) ++ (s.members g).filter (fun u => u ≤ p)

/-- The round-robin pointer of group `g` names `u` (R103, R105). -/
def State.point (s : State) (g u : UplinkId) : State := { s with pointers := s.pointers.set g (some u) }

/-! ### The queues -/

/-- A frame joins the tail of its tunnel's egress queue; the tunnel joins its group's list when the queue was empty (R37, R38,
R102). -/
def enqueue (t : TunnelId) (f : CarrierFrame) (s : State) : State :=
  let x := s.tun t
  let s1 := s.setTun t { x with egress := x.egress ++ [f] }
  if x.egress.isEmpty then s1.setList x.cfg.activeGroup (s1.list x.cfg.activeGroup ++ [t]) else s1

/-- A flush: the egress queue is emptied and the tunnel leaves its waiting list, uncounted (R100). -/
def flush (t : TunnelId) (s : State) : State :=
  let g := (s.tun t).cfg.activeGroup
  (s.modTun t fun x => { x with egress := [] }).setList g ((s.list g).filter (· ≠ t))

/-- The head tunnel of group `g` gives up its oldest frame: it rejoins the tail when frames remain, and a waiting tunnel whose
last frame has left enters Dormant (R103, R105, R141). -/
def takeHead (g : UplinkId) (t : TunnelId) (rest : List TunnelId) (left : List CarrierFrame) (s : State) : State :=
  let s1 := (s.modTun t fun x => { x with egress := left }).setList g (if left.isEmpty then rest else rest ++ [t])
  if left.isEmpty then enterIfWaiting t s1 else s1

/-- One grant: the first free member in round-robin order takes the oldest frame of the head tunnel and starts transmitting it,
and the pointer names it (R103). Nothing happens without a free member or with an empty list. -/
def grantOne (g : UplinkId) (s : State) : State :=
  match s.list g, (s.roundRobin g).find? s.isFree with
  | t :: rest, some u =>
    match (s.tun t).egress with
    | f :: left => ((takeHead g t rest left s).modUplink u fun x => { x with tx := some f }).point g u
    | [] => s.setList g rest
  | _, _ => s

/-- The arbiter of a group serves its free members one after another at the event, four at most (R103). -/
def serve (g : UplinkId) (s : State) : State := grantOne g (grantOne g (grantOne g (grantOne g s)))

/-- The grants made at an event, at every group (R103). -/
def serveAll (s : State) : State := serve 3 (serve 2 (serve 1 (serve 0 s)))

/-- What follows at the same event when a tunnel's queue or keying has changed: the grants, and the entry of a waiting tunnel
into Dormant (R103, R141). -/
def settle (t : TunnelId) (s : State) : State := enterIfWaiting t (serveAll s)

/-- One discard: when the group has no Up member and a discarding one, the head tunnel's oldest frame is discarded and counted
in the next discarding member's UPLINK_DISCARD (R105). -/
def discardOne (g : UplinkId) (s : State) : State :=
  if s.groupLive g then s
  else match s.list g, (s.roundRobin g).find? s.isDiscarding with
    | t :: rest, some u =>
      match (s.tun t).egress with
      | _ :: left => ((takeHead g t rest left s).modUplink u fun x => { x with discards := satInc x.discards }).point g u
      | [] => s.setList g rest
    | _, _ => s

/-! ### Uplink states -/

/-- A frame in transmission is lost and counted (R104). -/
def loseTx (u : UplinkId) (s : State) : State :=
  if (s.uplink u).tx.isSome then s.modUplink u fun x => { x with tx := none, txLost := satInc x.txLost } else s

/-- The detail of an UPLINK_DOWN record (R95). -/
def ErrorCause.detail : ErrorCause → BitVec 32
  | .none => 0
  | .carrierLoss => 1
  | .receiveErrors => 2

/-- An Up uplink enters Errored (R95). -/
def enterErrored (u : UplinkId) (c : ErrorCause) (s : State) : State :=
  let s1 := (loseTx u s).modUplink u fun x =>
    { x with link := .errored, cause := c, erroredSince := some s.tick }
  (post .uplinkDown (some u.val) c.detail s1).modUplink u fun x => { x with rxErrors := 0 }

/-- An Errored uplink returns to Up by itself (R96). -/
def autoReturn (u : UplinkId) (s : State) : State :=
  let since := (s.uplink u).erroredSince.getD s.tick
  let s1 := s.modUplink u fun x => { x with link := .up, cause := .none }
  (post .uplinkUp (some u.val) (s.tick - since) s1).modUplink u fun x => { x with erroredSince := none }

/-- A good frame is delivered to the Cipher Engine (R93). -/
def deliver (u : UplinkId) (f : CarrierFrame) (s : State) : State :=
  s.modUplink u fun x =>
    { x with
      delivered := x.delivered ++ [{ frame := f, arrival := s.clock }], rxCount := satInc x.rxCount, rxErrors := 0 }

end Sys2Proof.Machine
end

