-- ==== Sys2Proof/Machine/Cipher.lean ====
section
/-! DEFINITION. What the Cipher Engine does: the limits of a generation (R34, R35, R36), enciphering (R37, R38, R39), opening and
judging an inbound frame (R42, R43, R44). -/

namespace Sys2Proof.Machine

/-- The highest sequence number of generation 0 (R36). -/
def gen0Limit : Nat := 4294967295

/-- The last number under the current generation makes it exhausted for data: the next is above L less 16 (R35). -/
def CurGen.exhausted (c : CurGen) (p : Profile) : Bool := decide (p.frameLimit - 16 < c.lastSeq + 1)

/-- The current generation is spent: the next number is above L (R35). -/
def CurGen.spent (c : CurGen) (p : Profile) : Bool := decide (p.frameLimit < c.lastSeq + 1)

/-- The current generation is expired: its age has reached A_max (R34). -/
def CurGen.expired (c : CurGen) (p : Profile) : Bool := decide (p.ageLimit ≤ c.age)

/-- An empty replay window (R33). -/
def Window.empty : Window := { high := 0, seen := [] }

/-- A context as it is created: the derived key and salt, and an empty window (R33). -/
def KeyContext.fresh (i : KdfInputs) : KeyContext :=
  { key := Config.derivedKey i, salt := Config.derivedSalt i, window := Window.empty }

/-- A sequence number as the header carries it. -/
def seqField (n : Nat) : BitVec 32 := BitVec.ofNat 32 n

/-! ### Outbound -/

/-- A frame of tunnel `t` enciphered under its current generation `c` with the next number (R37, R38, R39). -/
def currentFrame (s : State) (t : TunnelId) (c : CurGen) (kind : BitVec 4) (body : List Byte) : CarrierFrame :=
  outerFrame (s.tun t).cfg.peer (bridgeAddress s.label) kind c.number t (seqField (c.lastSeq + 1)) 0 c.ctx.key c.ctx.salt body

/-- An OFFER of tunnel `t` enciphered under generation 0 with its next number and the installed epoch (R38, R39). -/
def offerFrame (s : State) (t : TunnelId) (g : Gen0) (target : BitVec 8) (nonce : BitVec 128) : CarrierFrame :=
  outerFrame (s.tun t).cfg.peer (bridgeAddress s.label) kindOffer 0 t (seqField (g.lastSeq + 1)) g.epoch g.ctx.key g.ctx.salt
    (offerBody target nonce)

/-- The current generation's next sequence number is assigned. -/
def Tunnel.spendCurrent (x : Tunnel) : Tunnel :=
  { x with cur := x.cur.map fun c => { c with lastSeq := c.lastSeq + 1 } }

/-- Generation 0's next sequence number is assigned. -/
def Tunnel.spendGen0 (x : Tunnel) : Tunnel :=
  { x with gen0 := x.gen0.map fun g => { g with lastSeq := g.lastSeq + 1 } }

/-- A control frame under the current generation is enciphered and queued; `none`: it is not sent, for want of the generation,
of a number, or of a free slot (R38). -/
def sendCurrent (t : TunnelId) (kind : BitVec 4) (body : List Byte) (s : State) : Option State :=
  match (s.tun t).cur with
  | none => none
  | some c =>
    if c.spent (s.prof t) = true ∨ s.freeSlots = 0 then none
    else some (enqueue t (currentFrame s t c kind body) (s.modTun t Tunnel.spendCurrent))

/-- An OFFER is enciphered and queued; `none`: it is not sent (R38). -/
def sendOffer (t : TunnelId) (target : BitVec 8) (nonce : BitVec 128) (s : State) : Option State :=
  match (s.tun t).gen0 with
  | none => none
  | some g =>
    if gen0Limit < g.lastSeq + 1 ∨ s.freeSlots = 0 then none
    else some (enqueue t (offerFrame s t g target nonce) (s.modTun t Tunnel.spendGen0))

/-- The dormancy expiry set to the timeout from now, and dormancy due cleared (R140). -/
def armDormancy (t : TunnelId) (s : State) : State :=
  s.modTun t fun x =>
    { x with dormancyExpiry := some (s.after ((s.prof t).dormancyTimeout * 100)), dormancyDue := false }

/-- Data activity re-arms the dormancy timer of a Closed tunnel (R140). -/
def dataActivity (t : TunnelId) (s : State) : State :=
  if (s.tun t).shop = .closed then armDormancy t s else s

/-- An office frame is enciphered under the current generation and queued: FRAMES_OUT and the sample count rise, and it is data
activity (R37, R82, R140). -/
def encipherData (t : TunnelId) (c : CurGen) (f : EthFrame) (s : State) : State :=
  let s1 := s.modTun t fun x =>
    { x.spendCurrent with
      sample := min (x.sample + 1) 65535
      counters := { x.counters with framesOut := satInc x.counters.framesOut } }
  dataActivity t (enqueue t (currentFrame s t c kindData f.bytes) s1)

/-! ### Inbound -/

/-- Which context of its tunnel an inbound frame matches (R42). -/
inductive Match where
  | gen0
  | current
  | previous
  deriving DecidableEq, Repr

/-- The context that a header's generation and epoch name (R42). -/
def Tunnel.matching (x : Tunnel) (h : TunnelHeader) : Option (Match × KeyContext) :=
  if h.generation = 0 then
    match x.gen0 with
    | some g => if g.epoch = h.epoch then some (.gen0, g.ctx) else none
    | none => none
  else
    match x.cur.filter (fun c => c.number == h.generation), x.prev.filter (fun p => p.number == h.generation) with
    | some c, _ => some (.current, c.ctx)
    | none, some p => some (.previous, p.ctx)
    | none, none => none

/-- A frame opens when it was enciphered under the context's key, with the nonce of the inbound salt, and with the received
header authenticated (R43). -/
def KeyContext.opens (k : KeyContext) (h : TunnelHeader) (f : CarrierFrame) : Option (List Byte) :=
  match f.cipher with
  | none => none
  | some c =>
    if c.key = k.key ∧ c.nonce = frameNonce (inboundSalt k.salt) h.tunnel h.generation h.sequence ∧ c.aad = h.bytes
        ∧ c.body.length = h.length.toNat then some c.body
    else none

/-- The judgements of a replay window (R44). -/
inductive ReplayVerdict where
  | accept
  | replay
  | tooOld
  deriving DecidableEq, Repr

/-- A sequence number judged against a window (R44). -/
def Window.judge (w : Window) (n : Nat) : ReplayVerdict :=
  if w.high < n then .accept
  else if n + 63 < w.high then .tooOld
  else if n ∈ w.seen then .replay
  else .accept

/-- The window after an accepted number (R44). -/
def Window.accepted (w : Window) (n : Nat) : Window :=
  if w.high < n then { high := n, seen := n :: w.seen.filter fun m => n ≤ m + 63 }
  else { w with seen := n :: w.seen }

/-- The window of the matched context replaced. -/
def Tunnel.setWindow (x : Tunnel) (m : Match) (w : Window) : Tunnel :=
  match m with
  | .gen0 => { x with gen0 := x.gen0.map fun g => { g with ctx := { g.ctx with window := w } } }
  | .current => { x with cur := x.cur.map fun c => { c with ctx := { c.ctx with window := w } } }
  | .previous => { x with prev := x.prev.map fun p => { p with ctx := { p.ctx with window := w } } }

/-- The previous generation retired by a valid frame under the current one, with its grace expiry (R50). -/
def Tunnel.retirePrevious (x : Tunnel) (m : Match) : Tunnel :=
  if m = .current ∧ x.prev.isSome then { x with prev := none, grace := none } else x

end Sys2Proof.Machine
end

