-- ==== Sys2Proof/Machine/Renewal.lean ====
section
/-! DEFINITION. The Renewal Controller, the Key Derivation Unit and the Renewal Scheduler: the exchange (R64 to R71), the
derivation queue (R59 to R62), the rate filter and the due tests (R83 to R89), and the jitter draws (R90, R91). -/

namespace Sys2Proof.Machine

/-- The generation after `g`: 255 is followed by 1 (R66; 00_scope.md, "Generation numbers"). -/
def nextGeneration (g : BitVec 8) : BitVec 8 := if g = 255 then 1 else g + 1

/-! ### The derivation queue -/

/-- A queued entry of the tunnel is removed, and a derivation of it in flight belongs to no tunnel (R61). -/
def abortDerivation (t : TunnelId) (s : State) : State :=
  { s with
    kduQueue := s.kduQueue.filter fun e => e.tunnel ≠ t
    kduFlight := s.kduFlight.map fun d => if d.owner = some t then { d with owner := none } else d }

/-- An entry is for a generation and not for a bootstrap (R59). -/
def DerivationKind.isGeneration : DerivationKind → Bool
  | .bootstrap => false
  | .generation _ _ _ => true

/-- The abort of a generation derivation alone; a bootstrap stays queued or in flight (R23, R78). -/
def abortGeneration (t : TunnelId) (s : State) : State :=
  { s with
    kduQueue := s.kduQueue.filter fun e => !(e.tunnel == t && e.kind.isGeneration)
    kduFlight := s.kduFlight.map fun d =>
      if d.owner = some t ∧ d.kind.isGeneration = true then { d with owner := none } else d }

/-- An entry joins the tail of the derivation queue (R59). -/
def queueDerivation (t : TunnelId) (k : DerivationKind) (s : State) : State :=
  { s with kduQueue := s.kduQueue ++ [{ tunnel := t, kind := k }] }

/-- What a derivation takes at its start (R60). -/
def kdfInputs (t : TunnelId) (m : MasterSecret) (k : DerivationKind) : KdfInputs :=
  match k with
  | .bootstrap =>
    { secret := m.secret, epoch := m.epoch, tunnel := t, target := 0, bridgeNonce := 0, shopNonce := 0 }
  | .generation target b n =>
    { secret := m.secret, epoch := m.epoch, tunnel := t, target := target, bridgeNonce := b, shopNonce := n }

/-- The idle unit starts the derivation at the head of the queue with the master secret and epoch as they stand (R60). An entry
whose tunnel holds no secret has nothing to derive and leaves the queue. -/
def startDerivation (s : State) : State :=
  match s.kduFlight, s.kduQueue with
  | none, e :: rest =>
    match (s.tun e.tunnel).secret with
    | some m =>
      { s with
        kduQueue := rest
        kduFlight := some { owner := some e.tunnel, kind := e.kind, inputs := kdfInputs e.tunnel m e.kind } }
    | none => { s with kduQueue := rest }
  | _, _ => s

/-! ### The exchange -/

/-- The end of a tunnel's keying when generation 0 is exhausted (R36). -/
def exhaustSecret (t : TunnelId) (s : State) : State :=
  let s1 := flush t (abortDerivation t s)
  let s2 := s1.modTun t fun x =>
    { x.dropGenerations with secret := none, gen0 := none, keyState := .noSecret, health := x.health.toOff }
  postTunnel .secretExhausted t 4294967295 s2

/-- Steps 3 and 4 of an attempt, and the nonce it holds: the attempt count rises, and the response allowance runs from now
(R64). -/
def holdNonce (t : TunnelId) (nonce : BitVec 128) (s : State) : State :=
  s.modTun t fun x =>
    { x with attempts := x.attempts + 1, nonce := some { value := nonce, expiry := s.after (s.prof t).response } }

/-- An attempt: a fresh nonce, an OFFER under generation 0, the attempt count and the response expiry (R64). An OFFER that is
not sent leaves the attempt standing. The OFFER that takes generation 0's last number ends the tunnel's keying instead (R36). -/
def attempt (t : TunnelId) (target : BitVec 8) (s : State) : State :=
  let nonce := Config.drawnNonce s.draws
  let s1 := { s with draws := s.draws + 1 }
  match sendOffer t target nonce s1 with
  | none => holdNonce t nonce s1
  | some s2 =>
    if (s2.tun t).gen0.any (fun g => g.lastSeq == gen0Limit) then exhaustSecret t s2 else holdNonce t nonce s2

/-- Initial keying starts for an enabled UNKEYED tunnel, always for generation 1; otherwise the request does nothing (R65). -/
def startInitialKeying (t : TunnelId) (s : State) : State :=
  if (s.tun t).cfg.enabled = true ∧ (s.tun t).keyState = .unkeyed then
    attempt t 1 (s.modTun t fun x => { x with holdoff := none, attempts := 0, keyState := .offering 1 })
  else s

/-- A renewal may start from KEYED, PENDING or HELD (R66). -/
def KeyState.renewable : KeyState → Bool
  | .keyed => true
  | .pending => true
  | .held => true
  | _ => false

/-- A renewal starts for the generation after the current one (R66). -/
def startRenewal (t : TunnelId) (s : State) : State :=
  match (s.tun t).cur with
  | some c =>
    if (s.tun t).keyState.renewable then
      attempt t (nextGeneration c.number) (s.modTun t fun x =>
        { x with jitter := none, holdoff := none, attempts := 0, keyState := .offering (nextGeneration c.number) })
    else s
  | none => s

/-- The last response allowance has run out: the exchange fails (R67). -/
def failExchange (t : TunnelId) (target : BitVec 8) (s : State) : State :=
  let s1 := s.modTun t fun x =>
    { x with nonce := none, attempts := 0, holdoff := some (s.after (s.prof t).retryHoldoff) }
  (postTunnel .renewFail t (target.setWidth 32) s1).modTun t fun x =>
    { x with keyState := if x.cur.isSome then .keyed else .unkeyed }

/-- A valid ACCEPT: taken against the exchange in progress, or counted as stale (R68). -/
def takeAccept (t : TunnelId) (target : BitVec 8) (nonce shopNonce : BitVec 128) (s : State) : State :=
  if (s.tun t).keyState = .offering target ∧ (s.tun t).nonce.any (fun n => n.value == nonce) = true then
    (queueDerivation t (.generation target nonce shopNonce) s).modTun t fun x =>
      { x with nonce := none, attempts := 0, keyState := .deriv target }
  else s.modTunCounters t fun c => { c with staleControl := satInc c.staleControl }

/-- A valid ASK: a renewal from KEYED, PENDING or HELD, initial keying from UNKEYED, ignored otherwise (R71). -/
def takeAsk (t : TunnelId) (s : State) : State :=
  if (s.tun t).keyState.renewable then startRenewal t s else startInitialKeying t s

/-- The bootstrap derivation completes: generation 0 is stored, and an enabled tunnel that is not dormant starts initial keying
(R58). -/
def completeBootstrap (t : TunnelId) (i : KdfInputs) (s : State) : State :=
  if (s.tun t).keyState = .bootstrap then
    let s1 := s.modTun t fun x =>
      { x with gen0 := some { epoch := i.epoch, ctx := KeyContext.fresh i, lastSeq := 0 }, keyState := .unkeyed }
    if (s.tun t).dormant then s1 else startInitialKeying t s1
  else s

/-! ### Erasing and disabling -/

/-- ERASE_KEYS *generations* as R78 gives it: its first case for NO_SECRET and BOOTSTRAP, its second for every other state; in
every state the flush and health Off. An office frame taken before the erase is queued and so flushed, and one taken after it is
dropped as NO_KEY: R15's table says so, and the last row of R80's table, read by its column heads, says the reverse. The model
follows R15 (DEDUCED, log entry 24). -/
def eraseGenerations (t : TunnelId) (s : State) : State :=
  let s1 :=
    if (s.tun t).keyState = .noSecret ∨ (s.tun t).keyState = .bootstrap then s.modTun t fun x => { x with sample := 0 }
    else (abortGeneration t s).modTun t fun x => { x.dropGenerations with keyState := .unkeyed }
  (flush t s1).modTun t fun x => { x with health := x.health.toOff }

/-- ERASE_KEYS *all*: also the bootstrap derivation, generation 0 and the master secret (R79). -/
def eraseAll (t : TunnelId) (s : State) : State :=
  (abortDerivation t (eraseGenerations t s)).modTun t fun x =>
    { x with gen0 := none, secret := none, keyState := .noSecret }

/-- The effects of an accepted INSTALL_SECRET (R57). -/
def installSecret (t : TunnelId) (m : MasterSecret) (s : State) : State :=
  let s1 := flush t (abortDerivation t s)
  let s2 := s1.modTun t fun x =>
    { x.dropGenerations with gen0 := none, secret := some m, keyState := .bootstrap, health := x.health.toOff }
  queueDerivation t .bootstrap s2

/-- The keying state after a disable or a RESET of level 2 (R20, R23). -/
def KeyState.unkeyedFrom : KeyState → KeyState
  | .noSecret => .noSecret
  | .bootstrap => .bootstrap
  | _ => .unkeyed

/-- The disable of an enabled tunnel (R23, R140). -/
def disableTunnel (t : TunnelId) (s : State) : State :=
  (flush t (abortGeneration t s)).modTun t fun x =>
    { x.dropGenerations with
      cfg := { x.cfg with enabled := false }
      keyState := x.keyState.unkeyedFrom
      dormant := false
      renewBefore := false
      dormancyExpiry := none
      dormancyDue := false
      health := x.health.toOff }

/-! ### The Renewal Scheduler -/

/-- One step of a first-order filter: the distance to the target times the beta over 256, truncated toward zero (R83, R117). -/
def filterStep (current target : Int) (beta : Nat) : Int := current + Int.tdiv ((target - current) * beta) 256

/-- The rate filter: R moves toward 16 n (R83). -/
def rateFilter (rate sample beta : Nat) : Nat := (filterStep rate (16 * sample) beta).toNat

/-- A tunnel's first two parts of a rate interval end: the rate filter while it is enabled and holds a current generation, and
the sample count set to 0 (R81). -/
def Tunnel.endInterval (profiles : Vector Profile 16) (x : Tunnel) : Tunnel :=
  { x with
    rate := if x.cfg.enabled && x.cur.isSome then rateFilter x.rate x.sample profiles[x.cfg.profile].rateBeta else x.rate
    sample := 0 }

/-- One step of the jitter generator (R90). -/
def lfsrStep (x : BitVec 16) : BitVec 16 := if x.getLsbD 0 then (x >>> 1) ^^^ 0xB400 else x >>> 1

/-- The delay that a generator state gives (R91). -/
def jitterDelay (s : State) : Nat := (s.jitterBase + s.lfsr.toNat % s.jitterRange) % 65536

/-- A jitter draw at the entry into PENDING: the generator steps, and the jitter delay expiry is set from the new state (R91). -/
def enterPending (t : TunnelId) (s : State) : State :=
  let s1 := { s with lfsr := lfsrStep s.lfsr }
  s1.modTun t fun x => { x with jitter := some (s1.after (jitterDelay s1)), keyState := .pending }

/-- The lead time W, in ticks (R84). -/
def leadTime (s : State) (p : Profile) : Nat :=
  (s.jitterBase + s.jitterRange - 1) + p.response * (1 + p.retryLimit) + p.derivation

/-- The horizon H, in frames: R W / 160 rounded up, saturating at 2^32 - 1 (R85). -/
def horizon (rate lead : Nat) : Nat := min ((rate * lead + 159) / 160) 4294967295

/-- The frame-budget test or the age test is met (R86, R87). -/
def renewalDue (c : CurGen) (p : Profile) (rate lead : Nat) : Bool :=
  decide (p.frameLimit - 16 ≤ c.lastSeq + horizon rate lead) || decide (p.ageLimit * 100 ≤ c.age * 100 + lead)

/-- The conditions under which a due test is made (R88). -/
def Tunnel.dueTestable (x : Tunnel) : Bool :=
  x.cfg.enabled && !x.dormant && x.keyState == .keyed && x.holdoff.isNone

/-- The due test of a tunnel at a rate interval end: HELD when Faulted(Silent), else a draw and PENDING (R88). -/
def dueTest (s : State) (t : TunnelId) : State :=
  match (s.tun t).cur with
  | some c =>
    if ((s.tun t).dueTestable && renewalDue c (s.prof t) (s.tun t).rate (leadTime s (s.prof t))) = true then
      if (s.tun t).health.state = .faultedSilent then s.modTun t fun x => { x with keyState := .held }
      else enterPending t s
    else s
  | none => s

/-- The closing renewal test: more than half worn by frames or by age (R89). -/
def closingTest (t : TunnelId) (s : State) : State :=
  match (s.tun t).cur with
  | some c =>
    if (s.tun t).dueTestable = true
        ∧ ((s.prof t).frameLimit < 2 * c.lastSeq ∨ (s.prof t).ageLimit < 2 * c.age) then enterPending t s
    else s
  | none => s

end Sys2Proof.Machine
end

