-- ==== Sys2Proof/Machine/Monitor.lean ====
section
/-! DEFINITION. The Health Monitor: probes and misses (R112 to R116), the filters and decisions (R117 to R122), releases (R123 to
R125), and the compensation of a Follower (R128 to R134). -/

namespace Sys2Proof.Machine

/-- The probe interval of a shop state (R112). -/
def probeInterval (p : Profile) (shop : ShopState) : Nat := if shop = .closed then p.probeClosed else p.probeOpen

/-- The probe expiry set to the probe interval of the present shop state from now (R112, R114). -/
def armProbe (t : TunnelId) (s : State) : State :=
  s.modHealth t fun h => { h with expiry := some (s.after (probeInterval (s.prof t) (s.tun t).shop)) }

/-- Signed values as a record or a reply carries them, in 32-bit two's complement (R149, R176). -/
def signed32 (x : Int) : BitVec 32 := BitVec.ofInt 32 x

/-! ### Releases -/

/-- The release of a Silent fault is told to the Renewal Controller: a HELD tunnel starts its renewal (R74). -/
def silentReleased (t : TunnelId) (s : State) : State :=
  if (s.tun t).keyState = .held then startRenewal t s else s

/-- A Faulted(Silent) tunnel is released with the cause as detail: RELEASE, Seeding, and the Renewal Controller told (R123). -/
def releaseSilent (t : TunnelId) (cause : BitVec 32) (s : State) : State :=
  silentReleased t ((postTunnel .release t cause s).modHealth t Health.toSeeding)

/-- A Faulted(Delay) tunnel is released (R122). -/
def releaseDelay (t : TunnelId) (cause : BitVec 32) (s : State) : State :=
  (postTunnel .release t cause s).modHealth t Health.toSeeding

/-! ### Probes and misses -/

/-- A miss of the probe `number` (R116). -/
def takeMiss (t : TunnelId) (number : BitVec 8) (s : State) : State :=
  let h := (s.tun t).health
  if (s.tun t).shop = .closed ∨ h.state = .faultedSilent ∨ h.state = .off then s
  else if h.miss + 1 < (s.prof t).missLimit then s.modHealth t fun h => { h with miss := h.miss + 1 }
  else
    let s1 := s.modHealth t fun h =>
      { h with miss := h.miss + 1, state := .faultedSilent, suspect := 0, settle := 0, seeds := [], snapshot := none }
    postTunnel .silentFault t (number.setWidth 32) s1

/-- The miss test at the sending of a probe: an outstanding probe is a miss, but the switch probe abandons it (R113, R114). -/
def missTest (t : TunnelId) (switchProbe : Bool) (s : State) : State :=
  match (s.tun t).health.outstanding with
  | some o => if switchProbe then s else takeMiss t o.number s
  | none => s

/-- A probe attempt: not requested while the group has no Up member; when the PROBE is queued, the miss test is made and it
becomes the outstanding probe (R113). -/
def attemptProbe (t : TunnelId) (switchProbe : Bool) (s : State) : State :=
  if s.groupLive (s.tun t).cfg.activeGroup then
    let number := (s.tun t).health.probe + 1
    match sendCurrent t kindProbe (probeBody number) s with
    | none => s
    | some s1 =>
      (missTest t switchProbe s1).modHealth t fun h =>
        { h with probe := number, outstanding := some { number := number, departure := s.clock } }
  else s

/-- An outstanding probe that left 2^31 or more units ago is abandoned (R115). -/
def dropStaleProbe (t : TunnelId) (s : State) : State :=
  s.modHealth t fun h =>
    { h with outstanding := h.outstanding.filter fun o => decide ((s.clock - o.departure).toNat < 2147483648) }

/-! ### Samples -/

/-- A round-trip sample: the elapsed time, 65535 when longer and 1 when 0 (R115). -/
def sampleOf (arrival departure : BitVec 32) : Nat := max 1 (min 65535 (arrival - departure).toNat)

/-- A seed sample; with the seed count of them the seed is accepted into Normal or rejected into Unseeded (R119). -/
def seedSample (t : TunnelId) (sample : Nat) (s : State) : State :=
  let p := s.prof t
  let seeds := (s.tun t).health.seeds ++ [sample]
  if seeds.length < p.seedCount then s.modHealth t fun h => { h with seeds := seeds }
  else
    let seed := seeds.sum / seeds.length
    if p.seedMin ≤ seed ∧ seed ≤ p.seedMax then
      s.modHealth t fun h =>
        { h with
          seeds := [], state := .normal, refSeed := seed
          fast := 16 * seed, slow := 16 * seed, base := 16 * seed, dev := 0, comp := 0 }
    else
      postTunnel .seedError t (BitVec.ofNat 32 seed) (s.modHealth t fun h => { h with seeds := [], state := .unseeded })

/-- The contribution of a Reference by its health state (R129). -/
def Health.contribution (h : Health) : Int :=
  if h.state = .normal ∨ h.state = .suspect then h.dev else 0

/-- A tunnel is Suspect or Faulted (R133). -/
def HealthState.troubled : HealthState → Bool
  | .suspect => true
  | .faultedDelay => true
  | .faultedSilent => true
  | _ => false

/-- The term subtracted from a tunnel's D: for a Follower of a Reference, D_ref w / 4096 truncated toward zero; else 0 (R128,
R130). -/
def compensation (s : State) (t : TunnelId) : Int :=
  let c := (s.tun t).cfg
  if c.role = .follower ∧ (s.tun c.reference).cfg.role = .reference then
    Int.tdiv ((s.tun c.reference).health.contribution * c.weight.val) 4096
  else 0

/-- Some Follower of the Reference `t` is Suspect or Faulted (R133). -/
def followerTroubled (s : State) (t : TunnelId) : Bool :=
  s.tunnels.toList.any fun x =>
    decide (x.cfg.role = .follower) && decide (x.cfg.reference = t) && x.health.state.troubled

/-- Steps 1 to 3 of a sample: F and A, then D with B as it stood, then Dc (R117). -/
def filterHealth (p : Profile) (sample : Nat) (term : Int) (h : Health) : Health :=
  let fast := filterStep h.fast (16 * sample) p.fastBeta
  { h with
    fast := fast
    slow := filterStep h.slow (16 * sample) p.slowBeta
    dev := fast - h.base
    comp := fast - h.base - term }

/-- Step 5 of a Normal sample: the baseline step and the reseed test, which a Reference with a troubled Follower defers (R117,
R118, R133). -/
def baselineStep (t : TunnelId) (sample : Nat) (s : State) : State :=
  let p := s.prof t
  let s1 := s.modHealth t fun h => { h with base := filterStep h.base (16 * sample) p.baseBeta }
  let h := (s1.tun t).health
  if 16 * (p.reseedBand : Int) < |h.base - 16 * (h.refSeed : Int)| then
    if (s1.tun t).cfg.role = .reference ∧ followerTroubled s1 t = true then s1
    else (postTunnel .reseed t (signed32 h.base) s1).modHealth t Health.toSeeding
  else s1

/-- The state decision of Normal and Suspect, and the baseline step of a tunnel left Normal (R121, R117). -/
def decideDelay (t : TunnelId) (sample : Nat) (s : State) : State :=
  let p := s.prof t
  let h := (s.tun t).health
  if h.comp < 16 * (p.threshold : Int) then
    baselineStep t sample (s.modHealth t fun h => { h with state := .normal, suspect := 0 })
  else
    let count := if h.state = .normal then 1 else h.suspect + 1
    if count < p.suspectCount then s.modHealth t fun h => { h with state := .suspect, suspect := count }
    else
      postTunnel .delayFault t (signed32 h.comp)
        (s.modHealth t fun h => { h with state := .faultedDelay, suspect := 0, settle := 0, snapshot := none })

/-- The settling and the snapshot of a Faulted(Delay) sample (R122, parts 1 and 2). -/
def settleHealth (p : Profile) (h : Health) : Health :=
  let settle := if |h.fast - h.slow| ≤ 16 * (p.settleThreshold : Int) then min (h.settle + 1) 255 else 0
  { h with
    settle := settle
    snapshot := if p.settleSamples ≤ settle ∧ h.snapshot = none then some (h.fast - h.base) else h.snapshot }

/-- The snapshot test (R122, part 3): A - F above S p / 128, truncated toward zero. -/
def snapshotTest (p : Profile) (h : Health) : Bool :=
  match h.snapshot with
  | none => false
  | some x => decide (Int.tdiv (x * p.releasePct) 128 < h.slow - h.fast)

/-- The decision of Faulted(Delay) (R122). -/
def decideRelease (t : TunnelId) (s : State) : State :=
  let p := s.prof t
  let s1 := s.modHealth t (settleHealth p)
  let h := (s1.tun t).health
  if h.comp < 16 * (p.threshold : Int) then releaseDelay t 1 s1
  else if snapshotTest p h then releaseDelay t 2 s1
  else s1

/-- An answering sample taken through the filters (R117). -/
def filterSample (t : TunnelId) (sample : Nat) (s : State) : State :=
  let s1 := s.modHealth t (filterHealth (s.prof t) sample (compensation s t))
  if (s.tun t).health.state = .faultedDelay then decideRelease t s1 else decideDelay t sample s1

/-- An answering sample taken in the tunnel's health state (R115). -/
def takeSample (t : TunnelId) (sample : Nat) (s : State) : State :=
  match (s.tun t).health.state with
  | .seeding => seedSample t sample s
  | .normal => filterSample t sample s
  | .suspect => filterSample t sample s
  | .faultedDelay => filterSample t sample s
  | .off => s
  | .unseeded => s
  | .faultedSilent => s

/-- A valid ECHO: it releases a Silent fault whatever its number, and gives a sample when it answers the outstanding probe (R115,
R123). -/
def takeEcho (t : TunnelId) (number : BitVec 8) (arrival : BitVec 32) (s : State) : State :=
  let s1 := if (s.tun t).health.state = .faultedSilent then releaseSilent t 3 s else s
  match (s1.tun t).health.outstanding with
  | none => s1
  | some o =>
    if o.number = number ∧ (s1.tun t).health.state ≠ .off then
      takeSample t (sampleOf arrival o.departure)
        (s1.modHealth t fun h => { h with outstanding := none, miss := 0 })
    else s1

/-- A change of shop state at the Health Monitor (R112, R124). -/
def healthShopChange (t : TunnelId) (old new : ShopState) (s : State) : State :=
  if (s.tun t).health.state = .off then s
  else
    let s1 := if (old = .closed) ↔ (new = .closed) then s else armProbe t s
    if new = .closed then
      let s2 := if (s1.tun t).health.state = .faultedSilent then releaseSilent t 4 s1 else s1
      s2.modHealth t fun h => { h with miss := 0 }
    else s1

/-! ### The switch -/

/-- The switch to a derived generation (R75, steps 1 to 5): the previous one is discarded with its record, the current becomes
previous, the derived key is installed, grace is armed, and the tunnel is KEYED. -/
def switchKeys (t : TunnelId) (target : BitVec 8) (i : KdfInputs) (s : State) : State :=
  let s1 := match (s.tun t).prev with
    | some p => postTunnel .genUnconfirmed t (p.number.setWidth 32) s
    | none => s
  s1.modTun t fun x =>
    { x with
      prev := x.cur.map fun c => { number := c.number, ctx := c.ctx }
      cur := some { number := target, ctx := KeyContext.fresh i, lastSeq := 0, age := 0, nextAge := s.after 100 }
      grace := if x.cur.isSome then some (s.after (s.prof t).grace) else none
      keyState := .keyed
      renewBefore := false
      health := if x.cur.isSome then x.health else x.health.toSeeding }

/-- The switch with its probe: the probe schedule restarts from the switch whether or not the probe is sent (R75, R76, R111,
R114). -/
def switchGeneration (t : TunnelId) (target : BitVec 8) (i : KdfInputs) (s : State) : State :=
  armProbe t (attemptProbe t true (switchKeys t target i s))

end Sys2Proof.Machine
end

