-- ==== Sys2Proof/Machine/Trading.lean ====
section
/-! DEFINITION. The trading-state logic: the wake (R144, R145), a change of shop state (R139), the enable of a tunnel (R22, R140),
and the tunnel checks of an office frame (R12 to R15). -/

namespace Sys2Proof.Machine

/-- The wake of a dormant tunnel (R145). -/
def wake (t : TunnelId) (s : State) : State :=
  if (s.tun t).dormant then
    let s1 := s.modTun t fun x => { x with dormant := false }
    let s2 :=
      if (s.tun t).cur.isSome then
        s1.modTun t fun x => { x with renewBefore := true, health := { x.health.toSeeding with expiry := some s.tick } }
      else startInitialKeying t s1
    if (s2.tun t).shop = .closed then armDormancy t s2 else s2
  else s

/-- The dormancy timer at a change of shop state (R139, step 4). -/
def dormancyShopChange (t : TunnelId) (new : ShopState) (s : State) : State :=
  if new = .closed then
    if (s.tun t).cfg.enabled then armDormancy t s else s
  else s.modTun t fun x => { x with dormancyExpiry := none, dormancyDue := false }

/-- A change of shop state, whatever its source: wake, health, closing renewal and dormancy timer, in this order (R139). -/
def changeShop (t : TunnelId) (new : ShopState) (s : State) : State :=
  let old := (s.tun t).shop
  let s1 := s.modTun t fun x => { x with shop := new }
  let s2 := if old = .closed then wake t s1 else s1
  let s3 := healthShopChange t old new s2
  let s4 := if new = .closing then closingTest t s3 else s3
  dormancyShopChange t new s4

/-- The shop state set to `new`: a change when it differs, nothing otherwise (R17, R138). -/
def setShop (t : TunnelId) (new : ShopState) (s : State) : State :=
  if (s.tun t).shop = new then s else changeShop t new s

/-- The enable of a disabled tunnel (R22), which arms the dormancy timer of a Closed one (R140). -/
def enableTunnel (t : TunnelId) (s : State) : State :=
  let s1 := s.modTun t fun x => { x with cfg := { x.cfg with enabled := true } }
  let s2 := if (s.tun t).shop = .closed then armDormancy t s1 else s1
  startInitialKeying t s2

/-- The store status snoop (R17). -/
def snoop (t : TunnelId) (f : EthFrame) (s : State) : State :=
  match statusMessage s.statusPort s.statusType f with
  | some new => if (s.tun t).cfg.snoop then setShop t new s else s
  | none => s

/-- The drop of an office frame for want of readiness; in UNKEYED with no hold-off running it is a keying trigger (R12, R65). -/
def dropNoKey (t : TunnelId) (s : State) : State :=
  let s1 := s.modTunCounters t fun c => { c with noKey := satInc c.noKey }
  if (s.tun t).keyState = .unkeyed ∧ (s.tun t).holdoff = none then startInitialKeying t s1 else s1

/-- The second and third checks and the encipher, for a tunnel with a current generation (R13, R14, R15). The data limit and the
free slots are read as they stand at this event, so a grant taken before it has freed its queue position: R15's table says so, and
the last row of R106's table, read by its column heads, says the reverse. The model follows R15 (DEDUCED, log entry 20). The slot
of the granted frame is another matter: it is in use until the transmission ends (R98; DEDUCED, log entry 23). -/
def checkAndEncipher (t : TunnelId) (c : CurGen) (f : EthFrame) (s : State) : State :=
  let p := s.prof t
  if c.exhausted p || c.expired p then
    postTunnel .keyExhausted t (seqField c.lastSeq)
      (s.modTunCounters t fun n => { n with exhausted := satInc n.exhausted })
  else if decide (p.dataLimit ≤ (s.tun t).dataFrames) || decide (s.freeSlots ≤ 64) then
    postTunnel .tailDrop t (BitVec.ofNat 32 s.freeSlots)
      (s.modTunCounters t fun n => { n with tailDrop := satInc n.tailDrop })
  else encipherData t c f s

/-- The tunnel checks of an office frame, in the manual's order (R12 to R15). -/
def tunnelChecks (t : TunnelId) (f : EthFrame) (s : State) : State :=
  if (s.tun t).cfg.enabled then
    let s1 := wake t s
    match (s1.tun t).cur with
    | none => dropNoKey t s1
    | some c => checkAndEncipher t c f s1
  else s.modTunCounters t fun c => { c with noKey := satInc c.noKey }

end Sys2Proof.Machine
end

