-- ==== Sys2Proof/Machine/Agent.lean ====
section
/-! DEFINITION. The Management Agent: taking a command (R156, R162, R164, R166) and what each command of the command set does, as
operations that a management frame and the command's own row of the table share. -/

namespace Sys2Proof.Machine

/-- A command as the Agent takes it: where its reply goes, its return tag, the level of PROV_S, whether it came under the
broadcast label, and whether that frame joined the cascade forwarding list (R162, R172). -/
structure CmdCtx where
  source : Mac
  tag : BitVec 16
  prov : Bool
  broadcast : Bool
  joined : Bool
  deriving DecidableEq, Repr

/-- What a command answers: a status and a payload at once, or a reply at its completion (R164, R166). -/
inductive Answer where
  | now (status : Status) (payload : List Byte)
  | later
  deriving DecidableEq, Repr

/-- A command's operation: its effects, and its answer. -/
abbrev CmdOp := CmdCtx → State → State × Answer

/-- A refused command has none of its effects and no payload (R164). -/
def refuse (st : Status) : CmdOp := fun _ s => (s, .now st [])

/-- A reply is built under the label as it stands and offered to the office transmit queue (R164, R53). -/
def sendReply (dst : Mac) (tag : BitVec 16) (code : Byte) (st : Status) (payload : List Byte) (s : State) : State :=
  offerReserved .reply (replyFrame dst s.label code st tag payload) s

/-- The commands valid under broadcast: IDENTIFY and RESET (R164). -/
def broadcastCode (code : Byte) : Bool := code == 0x01 || code == 0x1B

/-- The Agent takes a command: the station address is learned under the bridge's own label (R156); a broadcast command other
than IDENTIFY and RESET is answered BAD_LABEL, any command BUSY while one is in progress (R164, R166); otherwise the command's
operation gives the answer. R164 puts the check for BAD_LABEL before the one for BUSY, and R166 says BUSY of every command under
broadcast whatever its code: the order of R164 is followed (DEDUCED, log entry 22). -/
def takeCommand (ctx : CmdCtx) (code : Byte) (op : CmdOp) (s : State) : State :=
  let s1 := if ctx.broadcast then s else { s with station := some ctx.source }
  if ctx.broadcast && !broadcastCode code then sendReply ctx.source ctx.tag code .badLabel [] s1
  else if s1.progress.isSome then sendReply ctx.source ctx.tag code .busy [] s1
  else
    match op ctx s1 with
    | (s2, .now st payload) => sendReply ctx.source ctx.tag code st payload s2
    | (s2, .later) => s2

/-- A row of the table that is a command: it came under this bridge's own label, or in a broadcast frame that is first
forwarded (R162). -/
def commandRow (h : CmdHeader) (code : Byte) (op : CmdOp) (s : State) : State :=
  match h.broadcast with
  | none =>
    takeCommand { source := h.source, tag := h.tag, prov := h.prov, broadcast := false, joined := false } code op s
  | some f =>
    let r := cascadeForward f s
    takeCommand { source := h.source, tag := h.tag, prov := h.prov, broadcast := true, joined := r.2 } code op r.1

/-! ### The Agent's own commands -/

/-- IDENTIFY (R167). -/
def opIdentify : CmdOp := fun ctx s =>
  (s, .now .ok (num16 0x0B30 ++ num8 1 ++ bytes16 s.label ++ [s.straps.setWidth 8] ++ bool8 ctx.prov
    ++ bool8 s.transportKey.isSome))

/-- SET_LABEL (R165). -/
def opSetLabel (label : BitVec 16) : CmdOp := fun _ s =>
  if label = broadcastLabel then (s, .now .badArg []) else ({ s with label := label }, .now .ok [])

/-- The counters of an uplink in the order of R97. -/
def Uplink.counterBytes (u : Uplink) : List Byte :=
  bytes32 u.txCount ++ bytes32 u.txLost ++ bytes32 u.discards ++ bytes32 u.rxCount ++ bytes32 u.rxError

/-- Every device counter in the order of R173's table, uplink 0 first (R176). -/
def State.counterBytes (s : State) : List Byte :=
  let c := s.counters
  bytes32 c.officeRxError ++ bytes32 c.officeHoldOverrun ++ bytes32 c.tunnelTypeIn ++ bytes32 c.nonIp ++ bytes32 c.classDrop
    ++ bytes32 c.mapRange ++ bytes32 c.clearInbound ++ bytes32 c.malformed ++ bytes32 c.inactiveTunnel
    ++ bytes32 c.officeOverrun ++ (s.uplink 0).counterBytes ++ (s.uplink 1).counterBytes ++ (s.uplink 2).counterBytes
    ++ (s.uplink 3).counterBytes ++ bytes32 c.mgmtMalformed ++ bytes32 c.cascadeDrop

/-- READ_COUNTERS (R167). -/
def opReadCounters : CmdOp := fun _ s => (s, .now .ok s.counterBytes)

/-- SET_TRANSPORT_KEY (R168). -/
def opSetTransportKey (key : BitVec 256) : CmdOp := fun ctx s =>
  if ctx.prov = false then (s, .now .locked [])
  else if s.transportKey.isSome then (s, .now .badState [])
  else ({ s with transportKey := some key }, .now .ok [])

/-! ### The Fault Reporter's commands -/

/-- A set of summary flags as a reply carries it (R176). -/
def flagBytes (f : BitVec 11) : List Byte := bytes16 (f.setWidth 16)

/-- The clearing of RESET and the change of the mode in force that it may be (R153, R159). -/
def acknowledgeReset (s : State) : State :=
  if s.resetFlag then
    let s1 := s.setFlags (s.flags &&& ~~~flagBit flagReset)
    if s1.noticeMode = .event then
      { s1 with
        reportExpiry := if s1.maskedFlagSet then s1.reportExpiry else none
        holdoffExpiry := none
        noticePending := false }
    else s1
  else s

/-- ACK_RESET (R153, R159). -/
def opAckReset : CmdOp := fun _ s =>
  let s1 := acknowledgeReset s
  (s1, .now .ok (flagBytes s1.flags))

/-- The notice settings stored by an accepted SET_NOTICE, and the notice timers they set (R157). -/
def setNoticeTo (mode : NoticeMode) (interval holdoff : Nat) (mask : BitVec 11) (s : State) : State :=
  let s1 := { s with
    noticeMode := mode, reportInterval := interval, noticeHoldoff := holdoff, eventMask := mask
    holdoffExpiry := none, noticePending := false }
  { s1 with
    reportExpiry := if s1.modeInForce = .streaming ∨ s1.maskedFlagSet = true then some (s1.after interval) else none }

/-- SET_NOTICE (R157). -/
def opSetNotice (mode : Byte) (interval holdoff mask : BitVec 16) : CmdOp := fun _ s =>
  match modeArg mode with
  | none => (s, .now .badArg [])
  | some m =>
    let s1 := setNoticeTo m (clamp 10 65535 interval.toNat) (clamp 1 65535 holdoff.toNat) (mask.setWidth 11) s
    (s1, .now .ok (num8 s1.noticeMode.code ++ num16 s1.reportInterval ++ num16 s1.noticeHoldoff ++ flagBytes s1.eventMask))

/-- SET_INDICATOR (R161). -/
def opSetIndicator (mask : BitVec 16) (polarity : Byte) : CmdOp := fun _ s =>
  let s1 := { s with indicatorMask := mask.setWidth 11, indicatorHigh := polarity.getLsbD 0 }.driveIndicator
  (s1, .now .ok (flagBytes s1.indicatorMask ++ bool8 s1.indicatorHigh))

/-- Every flag but RESET cleared (R153, R169). -/
def clearFlags (s : State) : State := s.setFlags (s.flags &&& flagBit flagReset)

/-- READ_SUMMARY (R153). -/
def opReadSummary : CmdOp := fun _ s =>
  (clearFlags { s with overflow := 0 }, .now .ok (flagBytes s.flags ++ num8 s.faults.length ++ num16 s.overflow))

/-- READ_FAULTS (R154, R177). -/
def opReadFaults (n : Byte) : CmdOp := fun _ s =>
  if 8 < n.toNat then (s, .now .badArg [])
  else
    let taken := s.faults.take n.toNat
    let left := s.faults.drop n.toNat
    ({ s with faults := left },
      .now .ok (num8 left.length ++ num8 taken.length ++ (taken.map FaultRecord.bytes).flatten))

/-! ### The tables -/

/-- The separator of an entry; entry 47's is fixed at 65536 (R7). -/
def separatorOf (v : Vector Interval 48) (i : EntryId) : Nat := if i.val = 47 then 65536 else v[i].separator.toNat

/-- An entry's lower bound: the separator of the entry before it, or 0 for entry 0 (R7). -/
def lowerBound (v : Vector Interval 48) (i : EntryId) : Nat :=
  if i.val = 0 then 0 else separatorOf v ⟨i.val - 1, by omega⟩

/-- The entry that covers a store key: the lowest-numbered one whose separator is greater than the key and whose lower bound is
not (R8). -/
def coveringEntry (v : Vector Interval 48) (key : Nat) : Option EntryId :=
  (List.finRange 48).find? fun i => decide (key < separatorOf v i) && decide (lowerBound v i ≤ key)

/-- The separators of entries 0..46 do not decrease (R10). -/
def separatorsRise (v : Vector Interval 48) : Bool :=
  (List.finRange 47).all fun i => decide (lowerBound v ⟨i.val, by omega⟩ ≤ separatorOf v ⟨i.val, by omega⟩)

/-- WRITE_INTERVAL (R9). The separator carried for entry 47 is ignored. -/
def opWriteInterval (entry : Byte) (separator : BitVec 16) (action : Byte) (base : BitVec 16) : CmdOp := fun _ s =>
  match entryArg entry, actionArg action, tunnelArg base with
  | some i, some a, some b =>
    let old := s.shadowIntervals[i]
    let new : Interval := { separator := if i.val = 47 then old.separator else separator, action := a, base := b }
    ({ s with shadowIntervals := s.shadowIntervals.set i new }, .now .ok [])
  | _, _, _ => (s, .now .badArg [])

/-- READ_INTERVAL (R9). -/
def opReadInterval (copy entry : Byte) : CmdOp := fun _ s =>
  match boolArg copy, entryArg entry with
  | some shadow, some i =>
    let v := if shadow then s.shadowIntervals else s.intervals
    (s, .now .ok (num32 (separatorOf v i) ++ num8 v[i].action.code ++ num16 v[i].base.val))
  | _, _ => (s, .now .badArg [])

/-- WRITE_GROUPS (R101); the reply carries the active and then the shadow flags (log entry 16). -/
def opWriteGroups (flags : Byte) : CmdOp := fun _ s =>
  ({ s with shadowGroupFlags := GroupFlags.ofByte flags },
    .now .ok [s.groupFlags.byte, (GroupFlags.ofByte flags).byte])

/-- APPLY_TABLES: the check of R10, and the start of the swap of R11. -/
def opApplyTables : CmdOp := fun ctx s =>
  if separatorsRise s.shadowIntervals then
    ({ s with paused := true, progress := some (.applyTables ctx.source ctx.tag false false) }, .later)
  else (s, .now .badTable [])

/-- SET_CLASSIFY (R6). -/
def opSetClassify (offset : Byte) (port statusType : BitVec 16) : CmdOp := fun _ s =>
  if 16 < offset.toNat then (s, .now .badArg [])
  else ({ s with keyOffset := offset.toNat, statusPort := port, statusType := statusType }, .now .ok [])

/-! ### Profiles and tunnels -/

/-- The number of enabled tunnels that name a profile (R30). -/
def State.enabledNaming (s : State) (p : ProfileId) : Nat :=
  (s.tunnels.toList.filter fun x => x.cfg.enabled && x.cfg.profile == p).length

/-- WRITE_PROFILE (R29). -/
def opWriteProfile (profile : Byte) (values : Profile) : CmdOp := fun _ s =>
  match profileArg profile with
  | none => (s, .now .badArg [])
  | some p =>
    if s.enabledNaming p ≠ 0 then (s, .now .badState [])
    else ({ s with profiles := s.profiles.set p values.clamped }, .now .ok values.clamped.bytes)

/-- READ_PROFILE (R30). -/
def opReadProfile (profile : Byte) : CmdOp := fun _ s =>
  match profileArg profile with
  | none => (s, .now .badArg [])
  | some p => (s, .now .ok (s.profiles[p].bytes ++ num16 (s.enabledNaming p)))

/-- A tunnel entry as READ_TUNNEL returns it (R26, R176). -/
def Tunnel.bytes (x : Tunnel) : List Byte :=
  bool8 x.cfg.enabled ++ num8 x.cfg.profile.val ++ bytes48 x.cfg.peer ++ num8 x.cfg.role.code ++ num16 x.cfg.reference.val
    ++ num16 x.cfg.weight.val ++ num8 x.cfg.shadowGroup.val ++ num8 x.cfg.activeGroup.val ++ bool8 x.cfg.snoop
    ++ num8 x.keyState.code
    ++ (match x.secret with
        | some m => [1] ++ bytes16 m.epoch
        | none => [0, 0, 0])
    ++ bool8 x.gen0.isSome
    ++ (match x.cur with
        | some c => [1, c.number] ++ num32 c.lastSeq ++ num16 c.age
        | none => [0, 0, 0, 0, 0, 0, 0, 0])
    ++ (match x.prev with
        | some p => [1, p.number]
        | none => [0, 0])
    ++ num8 x.shop.code ++ bool8 x.dormant ++ bool8 x.renewBefore ++ num32 x.rate ++ num8 x.health.state.code
    ++ bytes32 (signed32 x.health.comp) ++ num16 x.egress.length ++ num8 x.dataFrames
    ++ bytes32 x.counters.framesOut ++ bytes32 x.counters.framesIn ++ bytes32 x.counters.noKey
    ++ bytes32 x.counters.exhausted ++ bytes32 x.counters.tailDrop ++ bytes32 x.counters.tagFail
    ++ bytes32 x.counters.replay ++ bytes32 x.counters.tooOld ++ bytes32 x.counters.unknownGen
    ++ bytes32 x.counters.staleControl

/-- READ_TUNNEL (R26). -/
def opReadTunnel (tunnel : BitVec 16) : CmdOp := fun _ s =>
  match tunnelArg tunnel with
  | none => (s, .now .badArg [])
  | some t => (s, .now .ok (s.tun t).bytes)

/-- A carried value is absent, or in range. -/
def carriedOk {α β : Type} (arg : α → Option β) (x : Option α) : Bool := x.all fun a => (arg a).isSome

/-- The first check of WRITE_TUNNEL after the tunnel number: every carried value is in range (R21, R176). -/
def TunnelWriteOk (w : TunnelWrite) : Bool :=
  carriedOk boolArg w.enabled && carriedOk profileArg w.profile && carriedOk roleArg w.role
    && carriedOk tunnelArg w.reference && carriedOk weightArg w.weight && carriedOk uplinkArg w.shadowGroup
    && carriedOk boolArg w.snoop

/-- The command carries a field that an enabled tunnel's entry refuses (R21, second check). -/
def TunnelWriteFixed (w : TunnelWrite) : Bool :=
  w.profile.isSome || w.peer.isSome || w.role.isSome || w.reference.isSome || w.weight.isSome

/-- Every carried field other than enabled and snoop stored (R21). -/
def TunnelConfig.store (w : TunnelWrite) (c : TunnelConfig) : TunnelConfig :=
  { c with
    profile := (w.profile.bind profileArg).getD c.profile
    peer := w.peer.getD c.peer
    role := (w.role.bind roleArg).getD c.role
    reference := (w.reference.bind tunnelArg).getD c.reference
    weight := (w.weight.bind weightArg).getD c.weight
    shadowGroup := (w.shadowGroup.bind uplinkArg).getD c.shadowGroup }

/-- The snoop-enabled field written: set from clear, it sets the shop state to Unknown as a change of shop state (R25). -/
def writeSnoop (t : TunnelId) (v : Bool) (s : State) : State :=
  let s1 := s.modTun t fun x => { x with cfg := { x.cfg with snoop := v } }
  if v = true ∧ (s.tun t).cfg.snoop = false then setShop t .unknown s1 else s1

/-- The enabled field written (R22, R23): a field written with its present value has no further effect. -/
def writeEnabled (t : TunnelId) (v : Bool) (s : State) : State :=
  if v = (s.tun t).cfg.enabled then s else if v then enableTunnel t s else disableTunnel t s

/-- The effects of an accepted WRITE_TUNNEL: every field but enabled is stored, then enabled is written (R21). -/
def writeTunnel (t : TunnelId) (w : TunnelWrite) (s : State) : State :=
  let s1 := s.modTun t fun x => { x with cfg := x.cfg.store w }
  let s2 := match w.snoop.bind boolArg with
    | some v => writeSnoop t v s1
    | none => s1
  let s3 := match w.enabled.bind boolArg with
    | some v => writeEnabled t v s2
    | none => s2
  settle t s3

/-- WRITE_TUNNEL (R21 to R25); the reply carries the entry as READ_TUNNEL would (R26). -/
def opWriteTunnel (w : TunnelWrite) : CmdOp := fun _ s =>
  match tunnelArg w.tunnel with
  | none => (s, .now .badArg [])
  | some t =>
    if TunnelWriteOk w = false then (s, .now .badArg [])
    else if (s.tun t).cfg.enabled = true ∧ TunnelWriteFixed w = true then (s, .now .badState [])
    else
      let s1 := writeTunnel t w s
      (s1, .now .ok (s1.tun t).bytes)

/-! ### Keys -/

/-- INSTALL_SECRET (R57). -/
def opInstallSecret (tunnel : BitVec 16) (block : Option Wrapping) : CmdOp := fun _ s =>
  match tunnelArg tunnel with
  | none => (s, .now .badArg [])
  | some t =>
    match unwrap s.transportKey tunnel block with
    | none => (s, .now .wrapFail [])
    | some m => (installSecret t m s, .now .ok (bytes16 m.epoch))

/-- ERASE_KEYS with scope *generations* (R78). -/
def opEraseGenerations (tunnel : BitVec 16) : CmdOp := fun _ s =>
  match tunnelArg tunnel with
  | none => (s, .now .badArg [])
  | some t => (settle t (eraseGenerations t s), .now .ok [])

/-- ERASE_KEYS with scope *all* (R79). -/
def opEraseAll (tunnel : BitVec 16) : CmdOp := fun _ s =>
  match tunnelArg tunnel with
  | none => (s, .now .badArg [])
  | some t => (settle t (eraseAll t s), .now .ok [])

/-- RENEW_NOW: the renewal or initial keying it starts, after the wake of a dormant tunnel (R72, R144). -/
def renewNow (t : TunnelId) (s : State) : State := settle t (takeAsk t (wake t s))

/-- The target generation of the exchange that RENEW_NOW starts (R65, R66). -/
def Tunnel.nextTarget (x : Tunnel) : BitVec 8 :=
  match x.cur with
  | some c => nextGeneration c.number
  | none => 1

/-- RENEW_NOW (R72). -/
def opRenewNow (tunnel : BitVec 16) : CmdOp := fun _ s =>
  match tunnelArg tunnel with
  | none => (s, .now .badArg [])
  | some t =>
    if (s.tun t).cfg.enabled = true ∧ ((s.tun t).keyState.renewable = true ∨ (s.tun t).keyState = .unkeyed) then
      (renewNow t s, .now .ok [(s.tun t).nextTarget])
    else (s, .now .badState [])

/-! ### Trading state, health and settings -/

/-- SET_SHOP_STATE (R138). -/
def opSetShopState (tunnel : BitVec 16) (shop : Byte) : CmdOp := fun _ s =>
  match tunnelArg tunnel, shopArg shop with
  | some t, some new =>
    let s1 := s.modTun t fun x => { x with cfg := { x.cfg with snoop := false } }
    (settle t (setShop t new s1), .now .ok (num8 (s.tun t).shop.code))
  | _, _ => (s, .now .badArg [])

/-- The effect of RESEED by the health state (R125). -/
def reseedTunnel (t : TunnelId) (s : State) : State :=
  match (s.tun t).health.state with
  | .faultedSilent => releaseSilent t 5 s
  | .faultedDelay => releaseDelay t 5 s
  | _ => s.modHealth t Health.toSeeding

/-- RESEED (R125). -/
def opReseed (tunnel : BitVec 16) : CmdOp := fun _ s =>
  match tunnelArg tunnel with
  | none => (s, .now .badArg [])
  | some t =>
    if (s.tun t).health.state = .off then (s, .now .badState [])
    else (settle t (reseedTunnel t s), .now .ok (num8 (s.tun t).health.state.code))

/-- SET_JITTER: a seed or a range of 0 is stored as 1 (R90). -/
def opSetJitter (seed base range : BitVec 16) : CmdOp := fun _ s =>
  let lfsr := if seed = 0 then 1 else seed
  let range := if range = 0 then 1 else range
  ({ s with lfsr := lfsr, jitterBase := base.toNat, jitterRange := range.toNat },
    .now .ok (bytes16 lfsr ++ bytes16 base ++ bytes16 range))

/-- SET_RETENTION (R32). -/
def opSetRetention (bank segment : Byte) : CmdOp := fun _ s =>
  ({ s with bankMask := bank, segmentMask := segment }, .now .ok [])

/-! ### Uplinks -/

/-- The flags that an UPLINK command stores (R94, R176). -/
def storeUplinkFlags (u : UplinkId) (flags : Byte) (s : State) : State :=
  s.modUplink u fun x => { x with autoRestart := flags.getLsbD 0, discardOnError := flags.getLsbD 1 }

/-- A start request by the link state and the carrier signal (R94). Without a carrier the consecutive receive errors keep their
value, since that row of R94 does not name them (DESIGN CHOICE, log entry 14). -/
def startUplink (u : UplinkId) (s : State) : State :=
  if (s.uplink u).link = .up then s
  else if (s.uplink u).carrier then
    s.modUplink u fun x => { x with link := .up, cause := .none, erroredSince := none, rxErrors := 0 }
  else
    post .uplinkDown (some u.val) ErrorCause.carrierLoss.detail
      (s.modUplink u fun x => { x with link := .errored, cause := .carrierLoss, erroredSince := some s.tick })

/-- A stop request: a frame in transmission is lost (R94, R104). The consecutive receive errors keep their value, since the stop
rows of R94 do not name them (DESIGN CHOICE, log entry 14). -/
def stopUplink (u : UplinkId) (s : State) : State :=
  (loseTx u s).modUplink u fun x => { x with link := .stopped, cause := .none, erroredSince := none }

/-- The reply of UPLINK: the link state and the two flags (R94, R176). -/
def Uplink.statusBytes (x : Uplink) : List Byte := num8 x.link.code ++ bool8 x.autoRestart ++ bool8 x.discardOnError

/-- UPLINK with a start request (R94). -/
def opUplinkStart (uplink flags : Byte) : CmdOp := fun _ s =>
  match uplinkArg uplink with
  | none => (s, .now .badArg [])
  | some u =>
    let s1 := serveAll (startUplink u (storeUplinkFlags u flags s))
    (s1, .now .ok (s1.uplink u).statusBytes)

/-- UPLINK with a stop request (R94). -/
def opUplinkStop (uplink flags : Byte) : CmdOp := fun _ s =>
  match uplinkArg uplink with
  | none => (s, .now .badArg [])
  | some u =>
    let s1 := stopUplink u (storeUplinkFlags u flags s)
    (s1, .now .ok (s1.uplink u).statusBytes)

/-! ### Reset levels -/

/-- RESET of level 1: every counter 0, the fault queue empty, the overflow count 0, every flag but RESET clear (R169). -/
def levelOne (s : State) : State :=
  clearFlags { s with
    counters := DeviceCounters.zero
    tunnels := vecMap (fun x : Tunnel => { x with counters := TunnelCounters.zero }) s.tunnels
    uplinks := vecMap (fun x : Uplink => { x with txCount := 0, txLost := 0, discards := 0, rxCount := 0, rxError := 0 })
      s.uplinks
    faults := []
    overflow := 0 }

/-- RESET with level 1 (R169). -/
def opResetLevel1 : CmdOp := fun _ s => (levelOne s, .now .ok [])

/-- A tunnel's part of a RESET of level 2 (R20, R137). -/
def Tunnel.levelTwo (now : Tick) (profiles : Vector Profile 16) (x : Tunnel) : Tunnel :=
  { x.dropGenerations with
    egress := []
    dormant := false
    renewBefore := false
    keyState := x.keyState.unkeyedFrom
    dormancyExpiry :=
      if x.cfg.enabled = true ∧ x.shop = .closed then
        some (now + BitVec.ofNat 32 (profiles[x.cfg.profile].dormancyTimeout * 100)) else none
    dormancyDue := false
    health := x.health.toOff }

/-- The bootstrap derivations queued again by level 2, in ascending tunnel order (R20, R62). -/
def bootstrapEntries (s : State) : List KduEntry :=
  (allTunnels.filter fun t => (s.tun t).keyState == .bootstrap).map fun t => { tunnel := t, kind := .bootstrap }

/-- The parts of a RESET of level 2 at the tunnels, the Key Derivation Unit, the Egress Scheduler and the trading-state logic
(R20, R62, R109, R137, R170). The first queued bootstrap starts at once when no derivation is in flight (R62). -/
def levelTwo (s : State) : State :=
  startDerivation { s with
    tunnels := vecMap (Tunnel.levelTwo s.tick s.profiles) s.tunnels
    waiting := vecConst 4 []
    kduQueue := bootstrapEntries s
    kduFlight := s.kduFlight.map fun d => { d with owner := none } }

/-- RESET with level 2: its parts are taken, and its reply waits for its completion (R170). -/
def opResetLevel2 : CmdOp := fun ctx s =>
  ({ levelTwo s with progress := some (.level2 ctx.source ctx.tag) }, .later)

/-- The entry that has just joined the cascade forwarding list is the one a level 3 waits for (R172). -/
def awaitLast : List CascadeEntry → List CascadeEntry
  | [] => []
  | [e] => [{ e with awaited := true }]
  | e :: es => e :: awaitLast es

/-- RESET with level 3: accepted; a broadcast that joined the cascade forwarding list is waited for (R172). -/
def opResetLevel3 : CmdOp := fun ctx s =>
  ({ s with
    progress := some (.level3 ctx.source ctx.tag)
    cascadeList := if ctx.joined then awaitLast s.cascadeList else s.cascadeList }, .later)

/-! ### Commands in management frames -/

/-- The operation that a command code and its payload name (R164, R176). -/
def commandOp (code : Byte) (pl : List Byte) (wrap : Option Wrapping) : CmdOp :=
  match requiredLength code with
  | none => refuse .unknownCmd
  | some n =>
    if pl.length < n then refuse .badArg
    else match code.toNat with
      | 0x01 => opIdentify
      | 0x02 => opSetLabel (be16At pl 0)
      | 0x03 => opReadCounters
      | 0x04 => opAckReset
      | 0x05 => opSetNotice (byteAt pl 0) (be16At pl 1) (be16At pl 3) (be16At pl 5)
      | 0x06 => opSetIndicator (be16At pl 0) (byteAt pl 2)
      | 0x07 => opReadSummary
      | 0x08 => opReadFaults (byteAt pl 0)
      | 0x09 => opWriteInterval (byteAt pl 0) (be16At pl 1) (byteAt pl 3) (be16At pl 4)
      | 0x0A => opReadInterval (byteAt pl 0) (byteAt pl 1)
      | 0x0B => opWriteGroups (byteAt pl 0)
      | 0x0C => opApplyTables
      | 0x0D => opWriteProfile (byteAt pl 0) (Profile.ofPayload pl)
      | 0x0E => opReadProfile (byteAt pl 0)
      | 0x0F => opWriteTunnel (TunnelWrite.ofPayload pl)
      | 0x10 => opReadTunnel (be16At pl 0)
      | 0x11 => opInstallSecret (be16At pl 0) wrap
      | 0x12 =>
        match (byteAt pl 2).toNat with
        | 0 => opEraseGenerations (be16At pl 0)
        | 1 => opEraseAll (be16At pl 0)
        | _ => refuse .badArg
      | 0x13 => opRenewNow (be16At pl 0)
      | 0x14 => opSetShopState (be16At pl 0) (byteAt pl 2)
      | 0x15 => opReseed (be16At pl 0)
      | 0x16 => opSetClassify (byteAt pl 0) (be16At pl 1) (be16At pl 3)
      | 0x17 => opSetJitter (be16At pl 0) (be16At pl 2) (be16At pl 4)
      | 0x18 => opSetRetention (byteAt pl 0) (byteAt pl 1)
      | 0x19 =>
        match (byteAt pl 1).toNat with
        | 0 => opUplinkStop (byteAt pl 0) (byteAt pl 2)
        | 1 => opUplinkStart (byteAt pl 0) (byteAt pl 2)
        | _ => refuse .badArg
      | 0x1A => opSetTransportKey (BitVec.ofNat 256 (beNatAt pl 0 32))
      | 0x1B =>
        match (byteAt pl 0).toNat with
        | 1 => opResetLevel1
        | 2 => opResetLevel2
        | 3 => opResetLevel3
        | _ => refuse .badArg
      | _ => refuse .unknownCmd

/-- A management frame that the label table sends to be executed or answered: malformed when its payload length claims more
bytes than it holds after its header, else taken as a command (R162). -/
def executeFrame (f : EthFrame) (prov broadcast joined : Bool) (s : State) : State :=
  let n := (be16At f.bytes 20).toNat
  if f.bytes.length < 22 + n then s.modCounters fun c => { c with mgmtMalformed := satInc c.mgmtMalformed }
  else
    takeCommand
      { source := be48At f.bytes 6, tag := be16At f.bytes 18, prov := prov, broadcast := broadcast, joined := joined }
      (byteAt f.bytes 16) (commandOp (byteAt f.bytes 16) ((f.bytes.drop 22).take n) f.wrap) s

/-- The Agent takes a management frame by the label it carries and the state of the cascade link (R162, R163). -/
def takeManagementFrame (f : EthFrame) (prov : Bool) (s : State) : State :=
  let carried := be16At f.bytes 14
  if carried = s.label then executeFrame f prov false false s
  else if carried = broadcastLabel then
    let r := cascadeForward f s
    executeFrame f prov true r.2 r.1
  else if s.cascadeUp then (cascadeForward f s).1
  else post .mgmtMisdirected none (carried.setWidth 32) s

end Sys2Proof.Machine
end

