-- ==== Sys2Proof/Machine/Classifier.lean ====
section
/-! DEFINITION. The office receive path and the Classifier: OFFICE_FRAME_ARRIVAL (R1, R2) and LOOKUP_TAKE_FRAME (R3 to R17). -/

namespace Sys2Proof.Machine

/-- The type stage and the tail of the holding list, for a frame without a receive error (R1, R2). -/
def typeStage (f : EthFrame) (prov : Bool) (s : State) : State :=
  if f.etherType = typeManagement then takeManagementFrame f prov s
  else if f.etherType = typeTunnel then s.modCounters fun c => { c with tunnelTypeIn := satInc c.tunnelTypeIn }
  else if s.holding.length < 256 then { s with holding := s.holding ++ [f] }
  else s.modCounters fun c => { c with officeHoldOverrun := satInc c.officeHoldOverrun }

/-- OFFICE_FRAME_ARRIVAL (R1, R2). -/
def execOfficeFrameArrival (a : OfficeArrival) (s : State) : Result :=
  .next (s.live fun s =>
    if a.frame.good a.fcsOk then typeStage a.frame a.prov s
    else s.modCounters fun c => { c with officeRxError := satInc c.officeRxError })

/-- A frame that maps to a tunnel: the snoop, then the tunnel checks, and what follows at the event (R8, R15, R17). -/
def officeFrameAt (t : TunnelId) (f : EthFrame) (s : State) : State := settle t (tunnelChecks t f (snoop t f s))

/-- The DROP action of entry `i` (R8). -/
def dropByClass (i : EntryId) (key : Nat) (s : State) : State :=
  post .classDrop (some i.val) (BitVec.ofNat 32 key) (s.modCounters fun c => { c with classDrop := satInc c.classDrop })

/-- The TUNNEL action of entry `i` with a tunnel number above 1023 (R8). -/
def dropByRange (i : EntryId) (key : Nat) (s : State) : State :=
  post .mapRange (some i.val) (BitVec.ofNat 32 key) (s.modCounters fun c => { c with mapRange := satInc c.mapRange })

/-- The action of the covering entry `i` on a frame with store key `key` (R8). -/
def applyEntry (i : EntryId) (key : Nat) (f : EthFrame) (s : State) : State :=
  match s.intervals[i].action with
  | .drop => dropByClass i key s
  | .tunnel =>
    let n := s.intervals[i].base.val + key - lowerBound s.intervals i
    if h : n < 1024 then officeFrameAt ⟨n, h⟩ f s else dropByRange i key s

/-- The lookup stage classifies a frame to completion (R3, R5, R8). Entry 47's fixed separator makes some entry cover every
key. -/
def classify (f : EthFrame) (s : State) : State :=
  if f.isIPv4 then
    match coveringEntry s.intervals (storeKey s.keyOffset f) with
    | some i => applyEntry i (storeKey s.keyOffset f) f s
    | none => s
  else s.modCounters fun c => { c with nonIp := satInc c.nonIp }

/-- LOOKUP_TAKE_FRAME: while classification is not paused, the oldest held frame is classified (R1, R8, R11). -/
def execLookupTakeFrame (s : State) : Result :=
  .next (s.live fun s =>
    match s.holding with
    | f :: rest => if s.paused then s else classify f { s with holding := rest }
    | [] => s)

end Sys2Proof.Machine
end

