-- ==== Sys2Proof/Machine/Uplinks.lean ====
section
/-! DEFINITION. The uplink ports and the Egress Scheduler's own events: UPLINK_FRAME_RECEIVE (R93), CARRIER_LOSS (R95),
CARRIER_RETURN (R96), GRANT (R103), UPLINK_TX_COMPLETE (R104) and GROUP_DISCARD (R105). -/

namespace Sys2Proof.Machine

/-- A frame received while Up: delivered, or a receive error, of which the sixteenth in a row takes the port to Errored (R93,
R95). -/
def receiveUp (u : UplinkId) (f : CarrierFrame) (fcsOk : Bool) (s : State) : State :=
  if f.good fcsOk then deliver u f s
  else
    let s1 := s.modUplink u fun x => { x with rxError := satInc x.rxError, rxErrors := x.rxErrors + 1 }
    if 16 ≤ (s1.uplink u).rxErrors then enterErrored u .receiveErrors s1 else s1

/-- A frame received while Errored: discarded, but a good one brings back a port with AutoRestart that erred by receive errors,
and is delivered as its first (R93, R96). -/
def receiveErrored (u : UplinkId) (f : CarrierFrame) (fcsOk : Bool) (s : State) : State :=
  if f.good fcsOk && (s.uplink u).autoRestart && (s.uplink u).cause == .receiveErrors then
    serveAll (deliver u f (autoReturn u s))
  else s

/-- UPLINK_FRAME_RECEIVE (R93). -/
def execUplinkFrameReceive (u : UplinkId) (f : CarrierFrame) (fcsOk : Bool) (sub : Fin 100) (s : State) : Result :=
  .next (s.live fun s =>
    let s1 := s.clockAt sub
    match (s.uplink u).link with
    | .up => receiveUp u f fcsOk s1
    | .errored => receiveErrored u f fcsOk s1
    | .stopped => s1)

/-- What the port makes of the loss of its carrier (R95). -/
def carrierLost (u : UplinkId) (s : State) : State :=
  match (s.uplink u).link with
  | .up => enterErrored u .carrierLoss s
  | .errored => s.modUplink u fun x => { x with cause := .carrierLoss }
  | .stopped => s

/-- CARRIER_LOSS: the signal is followed in every state, and while RST_N is low too; the port acts on its loss (R93, R95). -/
def execCarrierLoss (u : UplinkId) (s : State) : Result :=
  .next (
    let s1 := s.modUplink u fun x => { x with carrier := false }
    if (s.uplink u).carrier then s1.live (carrierLost u) else s1)

/-- What the port makes of the return of its carrier (R96). -/
def carrierReturned (u : UplinkId) (s : State) : State :=
  if (s.uplink u).link = .errored ∧ (s.uplink u).autoRestart = true ∧ (s.uplink u).cause = .carrierLoss then
    serveAll (autoReturn u s)
  else s

/-- CARRIER_RETURN: the signal is followed in every state, and while RST_N is low too; the port acts on its return (R93, R96). -/
def execCarrierReturn (u : UplinkId) (s : State) : Result :=
  .next (
    let s1 := s.modUplink u fun x => { x with carrier := true }
    if (s.uplink u).carrier then s1 else s1.live (carrierReturned u))

/-- GRANT: the next grant of group `g` (R103). Where the grants of an event have been made with the event, none is left. -/
def execGrant (g : UplinkId) (s : State) : Result := .next (s.live (grantOne g))

/-- UPLINK_TX_COMPLETE: the slot is freed and counted, and the free member is granted its next frame (R104, R103). -/
def execUplinkTxComplete (u : UplinkId) (s : State) : Result :=
  .next (s.live fun s =>
    if (s.uplink u).tx.isSome then
      serveAll (s.modUplink u fun x => { x with tx := none, txCount := satInc x.txCount })
    else s)

/-- GROUP_DISCARD: one discard of group `g` (R105). -/
def execGroupDiscard (g : UplinkId) (s : State) : Result := .next (s.live (discardOne g))

end Sys2Proof.Machine
end

