-- ==== Sys2Proof/Machine/Inbound.lean ====
section
/-! DEFINITION. The inbound path of the Cipher Engine: INBOUND_TUNNEL_FRAME (R40 to R50). -/

namespace Sys2Proof.Machine

/-- A valid DATA frame: its clear frame is offered to the office transmit queue, it is counted, and it is data activity (R46). -/
def takeData (t : TunnelId) (body : List Byte) (s : State) : State :=
  dataActivity t (offerClear { bytes := body }
    (s.modTunCounters t fun c => { c with framesIn := satInc c.framesIn }))

/-- A valid PROBE is answered with an ECHO of its body; one that is not sent is forgotten (R47, R38). -/
def answerProbe (t : TunnelId) (body : List Byte) (s : State) : State := (sendCurrent t kindEcho body s).getD s

/-- A valid ACCEPT or ASK under a generation other than 0 (R49). -/
def staleControl (t : TunnelId) (s : State) : State :=
  s.modTunCounters t fun c => { c with staleControl := satInc c.staleControl }

/-- A valid frame goes where its kind sends it (R45 step 3, R46 to R49). -/
def dispatch (t : TunnelId) (h : TunnelHeader) (m : Match) (body : List Byte) (arrival : BitVec 32) (s : State) : State :=
  if h.kind = kindData then takeData t body s
  else if h.kind = kindProbe then answerProbe t body s
  else if h.kind = kindEcho then takeEcho t (byteAt body 0) arrival s
  else if m ≠ .gen0 then staleControl t s
  else if h.kind = kindAccept then takeAccept t (byteAt body 0) (acceptNonce body) (acceptShopNonce body) s
  else takeAsk t s

/-- The event at which a frame becomes valid: the window takes its number, then wake, retirement and dispatch in this order
(R44, R45), and what follows at the event. -/
def takeValid (t : TunnelId) (h : TunnelHeader) (m : Match) (w : Window) (body : List Byte) (arrival : BitVec 32) (s : State) :
    State :=
  let s1 := s.modTun t fun x => x.setWindow m w
  let s2 := (wake t s1).modTun t fun x => x.retirePrevious m
  settle t (dispatch t h m body arrival s2)

/-- A frame that fails its tag check (R43). -/
def tagFail (t : TunnelId) (seq : BitVec 32) (s : State) : State :=
  postTunnel .tagFail t seq (s.modTunCounters t fun c => { c with tagFail := satInc c.tagFail })

/-- A frame whose number has been accepted in its window (R44). -/
def replayed (t : TunnelId) (seq : BitVec 32) (s : State) : State :=
  postTunnel .replay t seq (s.modTunCounters t fun c => { c with replay := satInc c.replay })

/-- A well-formed frame at its tunnel: the tunnel, generation, tag and replay checks (R42, R43, R44). -/
def takeAtTunnel (t : TunnelId) (h : TunnelHeader) (d : Delivered) (s : State) : State :=
  if (s.tun t).cfg.enabled = false ∨ (s.tun t).keyState = .noSecret then
    s.modCounters fun c => { c with inactiveTunnel := satInc c.inactiveTunnel }
  else
    match (s.tun t).matching h with
    | none => s.modTunCounters t fun c => { c with unknownGen := satInc c.unknownGen }
    | some (m, k) =>
      match k.opens h d.frame with
      | none => tagFail t h.sequence s
      | some body =>
        match k.window.judge h.sequence.toNat with
        | .accept => takeValid t h m (k.window.accepted h.sequence.toNat) body d.arrival s
        | .replay => replayed t h.sequence s
        | .tooOld => s.modTunCounters t fun c => { c with tooOld := satInc c.tooOld }

/-- The header of a frame of type 0x88B6, and the tunnel it names, where none of R41's conditions holds. -/
def wellFormedHeader (f : CarrierFrame) : Option (TunnelHeader × TunnelId) :=
  match TunnelHeader.ofBytes f.head with
  | none => none
  | some h => if h.wellFormed f.tail then (tunnelArg h.tunnel).map fun t => (h, t) else none

/-- A delivered frame is taken (R40, R41, R42). -/
def takeDelivered (d : Delivered) (s : State) : State :=
  if d.frame.etherType = typeTunnel then
    match wellFormedHeader d.frame with
    | none => s.modCounters fun c => { c with malformed := satInc c.malformed }
    | some (h, t) => takeAtTunnel t h d s
  else s.modCounters fun c => { c with clearInbound := satInc c.clearInbound }

/-- INBOUND_TUNNEL_FRAME: the Cipher Engine takes the oldest frame that uplink `u` has delivered (R40 to R50). -/
def execInboundTunnelFrame (u : UplinkId) (s : State) : Result :=
  .next (s.live fun s =>
    match (s.uplink u).delivered with
    | d :: rest => takeDelivered d (s.modUplink u fun x => { x with delivered := rest })
    | [] => s)

end Sys2Proof.Machine
end

