-- ==== Sys2Proof/Machine/Keying.lean ====
section
/-! DEFINITION. The events of the Key Derivation Unit and of the Renewal Controller's expiries: DERIVATION_START and
DERIVATION_COMPLETE (R60), RESPONSE_EXPIRY (R67), RETRY_HOLDOFF_EXPIRY (R70), JITTER_DELAY_EXPIRY (R73), GRACE_EXPIRY (R77) and
AGE_INCREMENT (R34). -/

namespace Sys2Proof.Machine

/-- DERIVATION_START: the idle unit starts the derivation at the head of its queue (R60). -/
def execDerivationStart (s : State) : Result := .next (s.live startDerivation)

/-- The result of a derivation goes to the Renewal Controller, or is discarded when the derivation belongs to no tunnel or its
tunnel is not in DERIVING with it (R58, R60, R61, R75). -/
def takeDerived (d : KduFlight) (s : State) : State :=
  match d.owner, d.kind with
  | none, _ => s
  | some t, .bootstrap => completeBootstrap t d.inputs s
  | some t, .generation target _ _ =>
    if (s.tun t).keyState = .deriv target then switchGeneration t target d.inputs s else s

/-- What follows at a completion: the next derivation starts, and the owner's grants and Dormant entry are made (R60, R103,
R141). -/
def afterDerived (owner : Option TunnelId) (s : State) : State :=
  match owner with
  | none => startDerivation s
  | some t => settle t (startDerivation s)

/-- DERIVATION_COMPLETE (R58, R60, R75). -/
def execDerivationComplete (sub : Fin 100) (s : State) : Result :=
  .next (s.live fun s =>
    match s.kduFlight with
    | none => s
    | some d => afterDerived d.owner (takeDerived d { s.clockAt sub with kduFlight := none }))

/-- RESPONSE_EXPIRY: a further attempt, or the exchange fails (R67). -/
def execResponseExpiry (t : TunnelId) (s : State) : Result :=
  .next (s.live fun s =>
    match (s.tun t).keyState with
    | .offering target =>
      if s.reached ((s.tun t).nonce.map OfferNonce.expiry) then
        settle t (if (s.tun t).attempts < 1 + (s.prof t).retryLimit then attempt t target s else failExchange t target s)
      else s
    | _ => s)

/-- RETRY_HOLDOFF_EXPIRY: the field becomes absent, and nothing starts by itself (R70). -/
def execRetryHoldoffExpiry (t : TunnelId) (s : State) : Result :=
  .next (s.live fun s => if s.reached (s.tun t).holdoff then s.modTun t fun x => { x with holdoff := none } else s)

/-- A PENDING tunnel's delay has run out: HELD when Faulted(Silent), otherwise the renewal starts (R73). -/
def endJitterDelay (t : TunnelId) (s : State) : State :=
  let s1 := s.modTun t fun x => { x with jitter := none }
  if (s.tun t).health.state = .faultedSilent then s1.modTun t fun x => { x with keyState := .held }
  else settle t (startRenewal t s1)

/-- JITTER_DELAY_EXPIRY (R73). -/
def execJitterDelayExpiry (t : TunnelId) (s : State) : Result :=
  .next (s.live fun s =>
    if (s.tun t).keyState = .pending ∧ s.reached (s.tun t).jitter = true then endJitterDelay t s else s)

/-- GRACE_EXPIRY: the unconfirmed previous generation is discarded with its record (R77). -/
def execGraceExpiry (t : TunnelId) (s : State) : Result :=
  .next (s.live fun s =>
    match (s.tun t).prev with
    | some p =>
      if s.reached (s.tun t).grace then
        postTunnel .genUnconfirmed t (p.number.setWidth 32) (s.modTun t fun x => { x with prev := none, grace := none })
      else s
    | none => s)

/-- A second of the current generation's age (R34). -/
def CurGen.older (c : CurGen) : CurGen := { c with age := min (c.age + 1) 65535, nextAge := c.nextAge + 100 }

/-- AGE_INCREMENT (R34). -/
def execAgeIncrement (t : TunnelId) (s : State) : Result :=
  .next (s.live fun s =>
    if s.reached ((s.tun t).cur.map CurGen.nextAge) then s.modTun t fun x => { x with cur := x.cur.map CurGen.older } else s)

end Sys2Proof.Machine
end

