-- ==== Sys2Proof/Machine/Timing.lean ====
section
/-! DEFINITION. Time, the rate interval, probes and dormancy: TICK and RATE_INTERVAL_END (R81), PROBE_EXPIRY (R112),
DORMANCY_EXPIRY (R141) and DORMANT_ENTRY (R142). -/

namespace Sys2Proof.Machine

/-- TICK: the tick counter and the phase count advance, the measurement clock enters the new tick, and a rate interval ends where
the phase count returns to 0 (R81, R115). -/
def execTick (s : State) : Result :=
  .next (s.live fun s =>
    { s with
      tick := s.tick + 1
      phase := s.phase + 1
      clock := (s.tick + 1) * 100
      intervalEnd := s.intervalEnd || s.phase + 1 == 0 })

/-- RATE_INTERVAL_END: the rate filters and the sample counts of every tunnel, then the due tests in ascending tunnel order (R81,
R83, R88, R91). -/
def execRateIntervalEnd (s : State) : Result :=
  .next (s.live fun s =>
    if s.intervalEnd then
      allTunnels.foldl dueTest
        { s with intervalEnd := false, tunnels := vecMap (Tunnel.endInterval s.profiles) s.tunnels }
    else s)

/-- The probe expiry of a tunnel outside Off is taken (R112, R113, R115). -/
def takeProbeExpiry (t : TunnelId) (s : State) : State :=
  settle t (armProbe t (attemptProbe t false (dropStaleProbe t s)))

/-- PROBE_EXPIRY (R112). -/
def execProbeExpiry (t : TunnelId) (sub : Fin 100) (s : State) : Result :=
  .next (s.live fun s =>
    if (s.tun t).health.state ≠ .off ∧ s.reached (s.tun t).health.expiry = true then takeProbeExpiry t (s.clockAt sub) else s)

/-- The dormancy expiry is taken: the tunnel enters Dormant, or dormancy due is set (R141). -/
def takeDormancyExpiry (t : TunnelId) (s : State) : State :=
  if (s.tun t).mayRest then s.modTun t (Tunnel.enterDormant (s.retained t))
  else s.modTun t fun x => { x with dormancyExpiry := none, dormancyDue := true }

/-- DORMANCY_EXPIRY (R141). -/
def execDormancyExpiry (t : TunnelId) (s : State) : Result :=
  .next (s.live fun s => if s.reached (s.tun t).dormancyExpiry then takeDormancyExpiry t s else s)

/-- DORMANT_ENTRY: a waiting tunnel for which both entry conditions hold enters Dormant (R141, R142). -/
def execDormantEntry (t : TunnelId) (s : State) : Result := .next (s.live (enterIfWaiting t))

end Sys2Proof.Machine
end

