-- ==== Sys2Proof/Machine/Office.lean ====
section
/-! DEFINITION. The transmit side of the office port (R54), the cascade port (R163), and the notice expiries (R159, R160). -/

namespace Sys2Proof.Machine

/-- A frame of the office transmit queue as it goes onto the office LAN: a short clear frame is padded (R54). -/
def OfficeFrame.onWire (f : OfficeFrame) : EthFrame := if f.kind = .clear then padClear f.frame else f.frame

/-- OFFICE_TX_START: the head frame leaves the queue and is in transmission (R54). -/
def execOfficeTxStart (s : State) : Result :=
  .next (s.live fun s =>
    match s.officeTx, s.officeQueue with
    | none, f :: rest => { s with officeQueue := rest, officeTx := some f.onWire }
    | _, _ => s)

/-- OFFICE_TX_COMPLETE: the transmission ends and its slot is free (R54). -/
def execOfficeTxComplete (s : State) : Result := .next (s.live fun s => { s with officeTx := none })

/-- CASCADE_TX_START: the free port starts transmitting the head of its list (R163). -/
def execCascadeTxStart (s : State) : Result :=
  .next (s.live fun s => if s.cascadeUp && !s.cascadeList.isEmpty then { s with cascadeTx := true } else s)

/-- CASCADE_TX_COMPLETE: the frame leaves the list (R163). -/
def execCascadeTxComplete (s : State) : Result :=
  .next (s.live fun s =>
    if s.cascadeTx then { s with cascadeList := s.cascadeList.drop 1, cascadeTx := false } else s)

/-- CASCADE_LINK_DOWN: the link is down, and every frame of the list is discarded and counted (R163). -/
def execCascadeLinkDown (s : State) : Result :=
  .next (
    let s1 := { s with cascadeUp := false }
    s1.live fun s => { countCascadeDrop s.cascadeList.length s with cascadeList := [], cascadeTx := false })

/-- CASCADE_LINK_UP: the carrier is present and forwarding is possible (R163). -/
def execCascadeLinkUp (s : State) : Result := .next { s with cascadeUp := true }

/-- CASCADE_FRAME_RECEIVE: a good management frame is offered to the office transmit queue unchanged, any other is discarded and
counted (R163). Nothing is received while the link is down. -/
def execCascadeFrameReceive (f : EthFrame) (fcsOk : Bool) (s : State) : Result :=
  .next (s.live fun s =>
    if s.cascadeUp then
      if f.good fcsOk && f.etherType == typeManagement then offerReserved .cascade f s else countCascadeDrop 1 s
    else s)

/-- The report expiry is taken in streaming (R159). -/
def reportStreaming (s : State) : State :=
  { sendNotice s with reportExpiry := some (s.after s.reportInterval) }

/-- The report expiry is taken in event mode (R160). -/
def reportEvent (s : State) : State :=
  if s.maskedFlagSet then
    match s.holdoffExpiry with
    | none => sendNotice (armNotice s)
    | some _ => { s with reportExpiry := none, noticePending := true }
  else { s with reportExpiry := none }

/-- REPORT_EXPIRY (R159, R160). -/
def execReportExpiry (s : State) : Result :=
  .next (s.live fun s =>
    if s.reached s.reportExpiry then
      match s.modeInForce with
      | .streaming => reportStreaming s
      | .event => reportEvent s
    else s)

/-- The hold-off runs out: a pending notice is sent when some flag of the mask is set, and dropped otherwise (R160). -/
def endHoldoff (s : State) : State :=
  let s1 := { s with holdoffExpiry := none, noticePending := false }
  if s.noticePending && s.maskedFlagSet then sendNotice (armNotice s1) else s1

/-- NOTICE_HOLDOFF_EXPIRY (R160). -/
def execNoticeHoldoffExpiry (s : State) : Result :=
  .next (s.live fun s => if s.reached s.holdoffExpiry then endHoldoff s else s)

end Sys2Proof.Machine
end

