-- ==== Sys2Proof/Machine/Tables.lean ====
section
/-! DEFINITION. The swap that an accepted APPLY_TABLES begins: INTERVAL_TABLE_COPY (R11), GROUP_SWAP (R107) and
APPLY_TABLES_COMPLETE (R11). -/

namespace Sys2Proof.Machine

/-- The code of APPLY_TABLES (R176). -/
def codeApplyTables : Byte := 0x0C

/-- INTERVAL_TABLE_COPY: the shadow interval table becomes the active one (R11). -/
def execIntervalTableCopy (s : State) : Result :=
  .next (s.live fun s =>
    match s.progress with
    | some (.applyTables src tag false swapped) =>
      { s with intervals := s.shadowIntervals, progress := some (.applyTables src tag true swapped) }
    | _ => s)

/-- A tunnel's active group under the new groups: the start of the group that holds its shadow group (R107 step 2). -/
def Tunnel.regroup (fl : GroupFlags) (x : Tunnel) : Tunnel :=
  { x with cfg := { x.cfg with activeGroup := groupStart fl x.cfg.shadowGroup } }

/-- The tunnels of the old lists, in ascending order of their start uplinks and each list in its own order (R107 step 3). -/
def State.waitingInOrder (s : State) : List TunnelId := s.list 0 ++ s.list 1 ++ s.list 2 ++ s.list 3

/-- Steps 1 to 4 of the group swap (R107). -/
def swapGroups (s : State) : State :=
  let s1 := { s with
    groupFlags := s.shadowGroupFlags
    tunnels := vecMap (Tunnel.regroup s.shadowGroupFlags) s.tunnels }
  let newList (g : UplinkId) : List TunnelId := s.waitingInOrder.filter fun t => (s1.tun t).cfg.activeGroup = g
  { s1 with
    waiting := ⟨#[newList 0, newList 1, newList 2, newList 3], rfl⟩
    pointers := vecConst 4 none }

/-- GROUP_SWAP, with the grants made under the new groups at the same event (R107). -/
def execGroupSwap (s : State) : Result :=
  .next (s.live fun s =>
    match s.progress with
    | some (.applyTables src tag copied false) =>
      serveAll { swapGroups s with progress := some (.applyTables src tag copied true) }
    | _ => s)

/-- APPLY_TABLES_COMPLETE: with the copy and the swap both done, classification resumes, the command in progress ends and its
reply is queued (R11). -/
def execApplyTablesComplete (s : State) : Result :=
  .next (s.live fun s =>
    match s.progress with
    | some (.applyTables src tag true true) =>
      sendReply src tag codeApplyTables .ok [] { s with paused := false, progress := none }
    | _ => s)

end Sys2Proof.Machine
end

