-- ==== Sys2Proof/Machine/Commands.lean ====
section
/-! DEFINITION. The commands of the command set, each as its own row of the table: the Agent takes the command under its code
(R164, R176) with the operation of its rule. -/

namespace Sys2Proof.Machine

/-- IDENTIFY (R167). -/
def execIdentify (h : CmdHeader) (s : State) : Result := .next (s.live (commandRow h 0x01 opIdentify))

/-- SET_LABEL (R165). -/
def execSetLabel (h : CmdHeader) (label : BitVec 16) (s : State) : Result :=
  .next (s.live (commandRow h 0x02 (opSetLabel label)))

/-- READ_COUNTERS (R167, R173). -/
def execReadCounters (h : CmdHeader) (s : State) : Result := .next (s.live (commandRow h 0x03 opReadCounters))

/-- ACK_RESET (R153, R159). -/
def execAckReset (h : CmdHeader) (s : State) : Result := .next (s.live (commandRow h 0x04 opAckReset))

/-- SET_NOTICE (R157). -/
def execSetNotice (h : CmdHeader) (mode : Byte) (interval holdoff mask : BitVec 16) (s : State) : Result :=
  .next (s.live (commandRow h 0x05 (opSetNotice mode interval holdoff mask)))

/-- SET_INDICATOR (R161). -/
def execSetIndicator (h : CmdHeader) (mask : BitVec 16) (polarity : Byte) (s : State) : Result :=
  .next (s.live (commandRow h 0x06 (opSetIndicator mask polarity)))

/-- READ_SUMMARY (R153). -/
def execReadSummary (h : CmdHeader) (s : State) : Result := .next (s.live (commandRow h 0x07 opReadSummary))

/-- READ_FAULTS (R154). -/
def execReadFaults (h : CmdHeader) (n : Byte) (s : State) : Result := .next (s.live (commandRow h 0x08 (opReadFaults n)))

/-- WRITE_INTERVAL (R9). -/
def execWriteInterval (h : CmdHeader) (entry : Byte) (separator : BitVec 16) (action : Byte) (base : BitVec 16)
    (s : State) : Result :=
  .next (s.live (commandRow h 0x09 (opWriteInterval entry separator action base)))

/-- READ_INTERVAL (R9). -/
def execReadInterval (h : CmdHeader) (copy entry : Byte) (s : State) : Result :=
  .next (s.live (commandRow h 0x0A (opReadInterval copy entry)))

/-- WRITE_GROUPS (R101). -/
def execWriteGroups (h : CmdHeader) (flags : Byte) (s : State) : Result :=
  .next (s.live (commandRow h 0x0B (opWriteGroups flags)))

/-- APPLY_TABLES (R10, R11). -/
def execApplyTables (h : CmdHeader) (s : State) : Result := .next (s.live (commandRow h codeApplyTables opApplyTables))

/-- WRITE_PROFILE (R29). -/
def execWriteProfile (h : CmdHeader) (profile : Byte) (values : Profile) (s : State) : Result :=
  .next (s.live (commandRow h 0x0D (opWriteProfile profile values)))

/-- READ_PROFILE (R30). -/
def execReadProfile (h : CmdHeader) (profile : Byte) (s : State) : Result :=
  .next (s.live (commandRow h 0x0E (opReadProfile profile)))

/-- WRITE_TUNNEL (R21 to R25). -/
def execWriteTunnel (h : CmdHeader) (w : TunnelWrite) (s : State) : Result :=
  .next (s.live (commandRow h 0x0F (opWriteTunnel w)))

/-- READ_TUNNEL (R26). -/
def execReadTunnel (h : CmdHeader) (tunnel : BitVec 16) (s : State) : Result :=
  .next (s.live (commandRow h 0x10 (opReadTunnel tunnel)))

/-- INSTALL_SECRET (R57). -/
def execInstallSecret (h : CmdHeader) (tunnel : BitVec 16) (block : Option Wrapping) (s : State) : Result :=
  .next (s.live (commandRow h 0x11 (opInstallSecret tunnel block)))

/-- ERASE_KEYS with scope *generations* (R78). -/
def execEraseKeysGenerations (h : CmdHeader) (tunnel : BitVec 16) (s : State) : Result :=
  .next (s.live (commandRow h 0x12 (opEraseGenerations tunnel)))

/-- ERASE_KEYS with scope *all* (R79). -/
def execEraseKeysAll (h : CmdHeader) (tunnel : BitVec 16) (s : State) : Result :=
  .next (s.live (commandRow h 0x12 (opEraseAll tunnel)))

/-- RENEW_NOW (R72, R144). -/
def execRenewNow (h : CmdHeader) (tunnel : BitVec 16) (s : State) : Result :=
  .next (s.live (commandRow h 0x13 (opRenewNow tunnel)))

/-- SET_SHOP_STATE (R138). -/
def execSetShopState (h : CmdHeader) (tunnel : BitVec 16) (shop : Byte) (s : State) : Result :=
  .next (s.live (commandRow h 0x14 (opSetShopState tunnel shop)))

/-- RESEED (R125). -/
def execReseed (h : CmdHeader) (tunnel : BitVec 16) (s : State) : Result :=
  .next (s.live (commandRow h 0x15 (opReseed tunnel)))

/-- SET_CLASSIFY (R6). -/
def execSetClassify (h : CmdHeader) (offset : Byte) (port statusType : BitVec 16) (s : State) : Result :=
  .next (s.live (commandRow h 0x16 (opSetClassify offset port statusType)))

/-- SET_JITTER (R90). -/
def execSetJitter (h : CmdHeader) (seed base range : BitVec 16) (s : State) : Result :=
  .next (s.live (commandRow h 0x17 (opSetJitter seed base range)))

/-- SET_RETENTION (R32). -/
def execSetRetention (h : CmdHeader) (bank segment : Byte) (s : State) : Result :=
  .next (s.live (commandRow h 0x18 (opSetRetention bank segment)))

/-- UPLINK with a start request (R94). -/
def execUplinkStart (h : CmdHeader) (uplink flags : Byte) (s : State) : Result :=
  .next (s.live (commandRow h 0x19 (opUplinkStart uplink flags)))

/-- UPLINK with a stop request (R94). -/
def execUplinkStop (h : CmdHeader) (uplink flags : Byte) (s : State) : Result :=
  .next (s.live (commandRow h 0x19 (opUplinkStop uplink flags)))

/-- SET_TRANSPORT_KEY (R168). -/
def execSetTransportKey (h : CmdHeader) (key : BitVec 256) (s : State) : Result :=
  .next (s.live (commandRow h 0x1A (opSetTransportKey key)))

end Sys2Proof.Machine
end

