-- ==== Sys2Proof/Machine/Resets.lean ====
section
/-! DEFINITION. The reset levels and the pin reset: RESET_LEVEL_1 (R169), RESET_LEVEL_2 and its completion (R170), RESET_LEVEL_3
and its performance (R172), PIN_RESET_ASSERT and PIN_RESET_RELEASE (R171). -/

namespace Sys2Proof.Machine

/-- The code of RESET (R176). -/
def codeReset : Byte := 0x1B

/-- RESET with level 1 (R169). -/
def execResetLevel1 (h : CmdHeader) (s : State) : Result := .next (s.live (commandRow h codeReset opResetLevel1))

/-- RESET with level 2: its parts are taken (R170). -/
def execResetLevel2 (h : CmdHeader) (s : State) : Result := .next (s.live (commandRow h codeReset opResetLevel2))

/-- A tunnel that has fallen dormant between its part of a level 2 and the level's completion: dormant is cleared once more
without a wake, and the timer of a Closed tunnel runs anew, as R137 has it for the level (DEDUCED, log entry 19). -/
def clearRest (t : TunnelId) (s : State) : State :=
  if (s.tun t).dormant then
    let s1 := s.modTun t fun x => { x with dormant := false }
    if (s.tun t).shop = .closed then armDormancy t s1 else s1
  else s

/-- Every enabled UNKEYED tunnel starts initial keying, in ascending tunnel order (R20, R65, R170); one that is dormant is so no
more, since no dormant tunnel is ever OFFERING (R143). -/
def startAllInitialKeying (s : State) : State :=
  allTunnels.foldl
    (fun s t =>
      if (s.tun t).cfg.enabled = true ∧ (s.tun t).keyState = .unkeyed then startInitialKeying t (clearRest t s) else s)
    s

/-- RESET_LEVEL_2_COMPLETE: the initial keyings start, the reply is queued and the command in progress ends (R170), with the
grants of the queued OFFERs (R103). -/
def execResetLevel2Complete (s : State) : Result :=
  .next (s.live fun s =>
    match s.progress with
    | some (.level2 src tag) =>
      serveAll (sendReply src tag codeReset .ok [] { startAllInitialKeying s with progress := none })
    | _ => s)

/-- RESET with level 3: accepted, and waiting where it was forwarded (R172). -/
def execResetLevel3 (h : CmdHeader) (s : State) : Result := .next (s.live (commandRow h codeReset opResetLevel3))

/-- Every block at its values after a pin reset, with the straps as sampled. The transport key is kept (R168), the source of
nonces does not begin again (R56), and the carrier signals are outside the bridge (log entry 7). -/
def pinReset (straps : BitVec 6) (s : State) : State :=
  { State.afterReset straps with
    transportKey := s.transportKey
    draws := s.draws
    uplinks := vecMap (fun x : Uplink => { Uplink.reset with carrier := x.carrier }) s.uplinks
    cascadeUp := s.cascadeUp
    pending := s.pending }

/-- A frame that a level 3 waits for is still in the cascade forwarding list (R172). -/
def State.awaitsCascade (s : State) : Bool := s.cascadeList.any CascadeEntry.awaited

/-- RESET_LEVEL_3_PERFORM: the reset, and then its reply under the label just sampled (R172). -/
def execResetLevel3Perform (straps : BitVec 6) (s : State) : Result :=
  .next (s.live fun s =>
    match s.progress with
    | some (.level3 src tag) =>
      if s.awaitsCascade then s else sendReply src tag codeReset .ok [] (pinReset straps s)
    | _ => s)

/-- PIN_RESET_ASSERT: RST_N falls. Transmissions, a derivation in flight and a command in progress end, and FAULT_IND is held
high (R161, R171). -/
def execPinResetAssert (s : State) : Result :=
  .next
    { s with
      rstLow := true
      faultInd := true
      progress := none
      kduFlight := none
      uplinks := vecMap (fun x : Uplink => { x with tx := none }) s.uplinks
      officeTx := none
      cascadeTx := false }

/-- PIN_RESET_RELEASE: RST_N rises after being held low, and the pin reset is taken (R171). -/
def execPinResetRelease (straps : BitVec 6) (s : State) : Result := .next (if s.rstLow then pinReset straps s else s)

end Sys2Proof.Machine
end

