-- ==== Sys2Proof/Machine/Dispatch.lean ====
section
/-! DEFINITION. The dispatch: one arm for each command, each one call of its meaning. -/

namespace Sys2Proof.Machine

/-- What a command does to everything but the queue. -/
def exec (i : Instr) (s : State) : Host.Outcome State Fault Refusal :=
  match i with
  | .officeFrameArrival a => Sys2Proof.Machine.execOfficeFrameArrival a s
  | .lookupTakeFrame => Sys2Proof.Machine.execLookupTakeFrame s
  | .uplinkFrameReceive u f fcsOk sub => Sys2Proof.Machine.execUplinkFrameReceive u f fcsOk sub s
  | .carrierLoss u => Sys2Proof.Machine.execCarrierLoss u s
  | .carrierReturn u => Sys2Proof.Machine.execCarrierReturn u s
  | .inboundTunnelFrame u => Sys2Proof.Machine.execInboundTunnelFrame u s
  | .derivationStart => Sys2Proof.Machine.execDerivationStart s
  | .derivationComplete sub => Sys2Proof.Machine.execDerivationComplete sub s
  | .responseExpiry t => Sys2Proof.Machine.execResponseExpiry t s
  | .retryHoldoffExpiry t => Sys2Proof.Machine.execRetryHoldoffExpiry t s
  | .jitterDelayExpiry t => Sys2Proof.Machine.execJitterDelayExpiry t s
  | .graceExpiry t => Sys2Proof.Machine.execGraceExpiry t s
  | .ageIncrement t => Sys2Proof.Machine.execAgeIncrement t s
  | .rateIntervalEnd => Sys2Proof.Machine.execRateIntervalEnd s
  | .probeExpiry t sub => Sys2Proof.Machine.execProbeExpiry t sub s
  | .dormancyExpiry t => Sys2Proof.Machine.execDormancyExpiry t s
  | .dormantEntry t => Sys2Proof.Machine.execDormantEntry t s
  | .grant g => Sys2Proof.Machine.execGrant g s
  | .uplinkTxComplete u => Sys2Proof.Machine.execUplinkTxComplete u s
  | .groupDiscard g => Sys2Proof.Machine.execGroupDiscard g s
  | .officeTxStart => Sys2Proof.Machine.execOfficeTxStart s
  | .officeTxComplete => Sys2Proof.Machine.execOfficeTxComplete s
  | .cascadeTxStart => Sys2Proof.Machine.execCascadeTxStart s
  | .cascadeTxComplete => Sys2Proof.Machine.execCascadeTxComplete s
  | .cascadeLinkDown => Sys2Proof.Machine.execCascadeLinkDown s
  | .cascadeLinkUp => Sys2Proof.Machine.execCascadeLinkUp s
  | .cascadeFrameReceive f fcsOk => Sys2Proof.Machine.execCascadeFrameReceive f fcsOk s
  | .reportExpiry => Sys2Proof.Machine.execReportExpiry s
  | .noticeHoldoffExpiry => Sys2Proof.Machine.execNoticeHoldoffExpiry s
  | .identify h => Sys2Proof.Machine.execIdentify h s
  | .setLabel h label => Sys2Proof.Machine.execSetLabel h label s
  | .readCounters h => Sys2Proof.Machine.execReadCounters h s
  | .ackReset h => Sys2Proof.Machine.execAckReset h s
  | .setNotice h mode interval holdoff mask => Sys2Proof.Machine.execSetNotice h mode interval holdoff mask s
  | .setIndicator h mask polarity => Sys2Proof.Machine.execSetIndicator h mask polarity s
  | .readSummary h => Sys2Proof.Machine.execReadSummary h s
  | .readFaults h n => Sys2Proof.Machine.execReadFaults h n s
  | .writeInterval h entry separator action base => Sys2Proof.Machine.execWriteInterval h entry separator action base s
  | .readInterval h copy entry => Sys2Proof.Machine.execReadInterval h copy entry s
  | .writeGroups h flags => Sys2Proof.Machine.execWriteGroups h flags s
  | .applyTables h => Sys2Proof.Machine.execApplyTables h s
  | .intervalTableCopy => Sys2Proof.Machine.execIntervalTableCopy s
  | .groupSwap => Sys2Proof.Machine.execGroupSwap s
  | .applyTablesComplete => Sys2Proof.Machine.execApplyTablesComplete s
  | .writeProfile h profile values => Sys2Proof.Machine.execWriteProfile h profile values s
  | .readProfile h profile => Sys2Proof.Machine.execReadProfile h profile s
  | .writeTunnel h w => Sys2Proof.Machine.execWriteTunnel h w s
  | .readTunnel h tunnel => Sys2Proof.Machine.execReadTunnel h tunnel s
  | .installSecret h tunnel block => Sys2Proof.Machine.execInstallSecret h tunnel block s
  | .eraseKeysGenerations h tunnel => Sys2Proof.Machine.execEraseKeysGenerations h tunnel s
  | .eraseKeysAll h tunnel => Sys2Proof.Machine.execEraseKeysAll h tunnel s
  | .renewNow h tunnel => Sys2Proof.Machine.execRenewNow h tunnel s
  | .setShopState h tunnel shop => Sys2Proof.Machine.execSetShopState h tunnel shop s
  | .reseed h tunnel => Sys2Proof.Machine.execReseed h tunnel s
  | .setClassify h offset port statusType => Sys2Proof.Machine.execSetClassify h offset port statusType s
  | .setJitter h seed base range => Sys2Proof.Machine.execSetJitter h seed base range s
  | .setRetention h bank segment => Sys2Proof.Machine.execSetRetention h bank segment s
  | .uplinkStart h uplink flags => Sys2Proof.Machine.execUplinkStart h uplink flags s
  | .uplinkStop h uplink flags => Sys2Proof.Machine.execUplinkStop h uplink flags s
  | .setTransportKey h key => Sys2Proof.Machine.execSetTransportKey h key s
  | .resetLevel1 h => Sys2Proof.Machine.execResetLevel1 h s
  | .resetLevel2 h => Sys2Proof.Machine.execResetLevel2 h s
  | .resetLevel2Complete => Sys2Proof.Machine.execResetLevel2Complete s
  | .resetLevel3 h => Sys2Proof.Machine.execResetLevel3 h s
  | .resetLevel3Perform straps => Sys2Proof.Machine.execResetLevel3Perform straps s
  | .pinResetAssert => Sys2Proof.Machine.execPinResetAssert s
  | .pinResetRelease straps => Sys2Proof.Machine.execPinResetRelease straps s
  | .tick => Sys2Proof.Machine.execTick s

end Sys2Proof.Machine
end

