-- ==== Sys2Proof/Safety.lean ====
section
/-! DEFINITION. What a sound state of the bridge is, in the terms the statements use: one predicate for each promise that the
manual makes about every state. Each holds after a reset and is kept by every command. -/

namespace Sys2Proof.Machine

/-! ### The Fault Reporter -/

/-- No two fault queue records share both kind and subject, and the queue never holds more than 64 (R150). -/
abbrev State.FaultQueueOk (s : State) : Prop :=
  (s.faults.map fun r => (r.kind, r.subject)).Nodup ∧ s.faults.length ≤ 64
    ∧ ∀ r ∈ s.faults, 1 ≤ r.count ∧ r.count ≤ 65535

/-- FAULT_IND stands at the level that R161 gives it. -/
abbrev State.IndicatorOk (s : State) : Prop := s.faultInd = s.indicatorLevel

/-! ### Queues and slots -/

/-- The lists outside the frame buffer and the office transmit queue stay within their sizes (R1, R53, R163). -/
abbrev State.QueuesOk (s : State) : Prop :=
  s.holding.length ≤ 256 ∧ s.officeQueue.length ≤ 512 ∧ s.cascadeList.length ≤ 16

/-- The slots in use never exceed 4096 (R98). -/
abbrev State.SlotsOk (s : State) : Prop := s.usedSlots ≤ 4096

/-- A tunnel is on a waiting list exactly when its egress queue is not empty, then on the list of its active group only, and only
once (R102). -/
abbrev State.WaitingOk (s : State) : Prop :=
  ∀ g : UplinkId, (s.list g).Nodup
    ∧ ∀ t : TunnelId, t ∈ s.list g ↔ (s.tun t).egress ≠ [] ∧ (s.tun t).cfg.activeGroup = g

/-! ### Settings -/

/-- Every field of a stored profile lies in its range (R28, R29). -/
abbrev InRange (p : Profile) : Prop :=
  (1048576 ≤ p.frameLimit ∧ p.frameLimit ≤ 4294967295) ∧ (60 ≤ p.ageLimit ∧ p.ageLimit ≤ 65535)
    ∧ (1 ≤ p.rateBeta ∧ p.rateBeta ≤ 255) ∧ (10 ≤ p.response ∧ p.response ≤ 6000) ∧ p.retryLimit ≤ 7
    ∧ (1 ≤ p.derivation ∧ p.derivation ≤ 1000) ∧ (1 ≤ p.retryHoldoff ∧ p.retryHoldoff ≤ 65535)
    ∧ (10 ≤ p.grace ∧ p.grace ≤ 65535) ∧ (10 ≤ p.probeOpen ∧ p.probeOpen ≤ 65535)
    ∧ (10 ≤ p.probeClosed ∧ p.probeClosed ≤ 65535) ∧ (1 ≤ p.fastBeta ∧ p.fastBeta ≤ 255)
    ∧ (1 ≤ p.baseBeta ∧ p.baseBeta ≤ 255) ∧ (1 ≤ p.slowBeta ∧ p.slowBeta ≤ 255)
    ∧ (1 ≤ p.threshold ∧ p.threshold ≤ 65535) ∧ (1 ≤ p.suspectCount ∧ p.suspectCount ≤ 15)
    ∧ (1 ≤ p.missLimit ∧ p.missLimit ≤ 15) ∧ (1 ≤ p.seedCount ∧ p.seedCount ≤ 16)
    ∧ (1 ≤ p.seedMin ∧ p.seedMin ≤ p.seedMax ∧ p.seedMax ≤ 65535) ∧ (1 ≤ p.reseedBand ∧ p.reseedBand ≤ 65535)
    ∧ p.settleThreshold ≤ 65535 ∧ (1 ≤ p.settleSamples ∧ p.settleSamples ≤ 255)
    ∧ (1 ≤ p.releasePct ∧ p.releasePct ≤ 127) ∧ (60 ≤ p.dormancyTimeout ∧ p.dormancyTimeout ≤ 65535)
    ∧ (1 ≤ p.dataLimit ∧ p.dataLimit ≤ 64)

/-- Every stored profile is in range (R28). -/
abbrev State.ProfilesOk (s : State) : Prop := ∀ p : ProfileId, InRange s.profiles[p]

/-- The settings and the generator stay in their ranges: the key offset (R6), the generator state and the jitter settings (R90),
the notice settings (R157), the overflow count (R151), and the bridge label, which is never the broadcast label (R165). -/
abbrev State.SettingsOk (s : State) : Prop :=
  s.ProfilesOk ∧ s.keyOffset ≤ 16 ∧ s.lfsr ≠ 0 ∧ s.jitterBase ≤ 65535 ∧ (1 ≤ s.jitterRange ∧ s.jitterRange ≤ 65535)
    ∧ (10 ≤ s.reportInterval ∧ s.reportInterval ≤ 65535) ∧ (1 ≤ s.noticeHoldoff ∧ s.noticeHoldoff ≤ 65535)
    ∧ s.overflow ≤ 65535 ∧ s.label ≠ broadcastLabel

/-! ### Keys -/

/-- The target generation of the exchange of OFFERING or DERIVING. -/
def KeyState.target : KeyState → Option (BitVec 8)
  | .offering g => some g
  | .deriv g => some g
  | _ => none

/-- The tunnel is OFFERING. -/
def KeyState.isOffering : KeyState → Bool
  | .offering _ => true
  | _ => false

/-- No exchange, delay or service under a current generation: NO_SECRET, BOOTSTRAP or UNKEYED. -/
def KeyState.bare : KeyState → Bool
  | .noSecret => true
  | .bootstrap => true
  | .unkeyed => true
  | _ => false

/-- The contexts and the bookkeeping that the keying state settles (R55, R56). -/
abbrev Tunnel.ContextsOk (x : Tunnel) : Prop :=
  (x.secret.isSome ↔ x.keyState ≠ .noSecret)
    ∧ (x.gen0.isSome ↔ x.keyState ≠ .noSecret ∧ x.keyState ≠ .bootstrap)
    ∧ (x.keyState.bare → x.cur = none)
    ∧ (x.keyState.renewable → x.cur.isSome)
    ∧ (x.cur = none → x.prev = none)
    ∧ (x.nonce.isSome ↔ x.keyState.isOffering)
    ∧ (x.attempts ≠ 0 ↔ x.keyState.isOffering)
    ∧ x.attempts ≤ 8
    ∧ (x.holdoff.isSome → x.keyState = .unkeyed ∨ x.keyState = .keyed)
    ∧ (x.jitter.isSome ↔ x.keyState = .pending)
    ∧ (x.grace.isSome ↔ x.prev.isSome)

/-- The generation numbers: 1..255; the current one follows the previous one; an exchange targets the one after the current, or 1
where there is none (R65, R66, R75). -/
abbrev Tunnel.NumbersOk (x : Tunnel) : Prop :=
  (∀ c ∈ x.cur, c.number ≠ 0 ∧ ∀ p ∈ x.prev, p.number ≠ 0 ∧ c.number = nextGeneration p.number)
    ∧ ∀ g ∈ x.keyState.target, g = match x.cur with
        | some c => nextGeneration c.number
        | none => 1

/-- Only an enabled tunnel runs an exchange, holds a generation or is dormant, and a dormant or waiting tunnel's shop is Closed
(R23, R65, R137, R139, R143). -/
abbrev Tunnel.RestOk (x : Tunnel) : Prop :=
  (x.keyState.bare = false → x.cfg.enabled)
    ∧ (x.dormant → x.cfg.enabled ∧ x.shop = .closed ∧ (x.keyState.bare ∨ x.keyState = .keyed))
    ∧ (x.dormancyExpiry.isSome ∨ x.dormancyDue → x.cfg.enabled ∧ x.shop = .closed ∧ x.dormant = false)

/-- What R55, R56, R75 and R143 promise of every tunnel. -/
abbrev State.KeyingOk (s : State) : Prop :=
  s.ProfilesOk ∧ ∀ t : TunnelId, (s.tun t).ContextsOk ∧ (s.tun t).NumbersOk ∧ (s.tun t).RestOk

/-- The keying state in which a derivation of a kind finds its tunnel (R59). -/
def DerivationKind.state : DerivationKind → KeyState
  | .bootstrap => .bootstrap
  | .generation target _ _ => .deriv target

/-- The tunnels of the derivation queue and of the derivation in flight. -/
def State.deriving (s : State) : List TunnelId :=
  (s.kduFlight.bind KduFlight.owner).toList ++ s.kduQueue.map KduEntry.tunnel

/-- A tunnel appears at most once in the derivation queue together with the derivation in flight, and is then BOOTSTRAP or
DERIVING with that derivation (R59). -/
abbrev State.DerivationsOk (s : State) : Prop :=
  s.deriving.Nodup
    ∧ (∀ e ∈ s.kduQueue, (s.tun e.tunnel).keyState = e.kind.state)
    ∧ (∀ d ∈ s.kduFlight, ∀ t ∈ d.owner, (s.tun t).keyState = d.kind.state)

/-- A replay window holds only numbers that it covers, each once (R44). -/
abbrev Window.Ok (w : Window) : Prop := w.seen.Nodup ∧ ∀ n ∈ w.seen, n ≤ w.high ∧ w.high ≤ n + 63

/-- Every replay window of every tunnel is so (R44). -/
abbrev State.WindowsOk (s : State) : Prop :=
  ∀ t : TunnelId, (∀ g ∈ (s.tun t).gen0, g.ctx.window.Ok) ∧ (∀ c ∈ (s.tun t).cur, c.ctx.window.Ok)
    ∧ ∀ p ∈ (s.tun t).prev, p.ctx.window.Ok

/-! ### Health -/

/-- The health state is Off exactly while the tunnel is disabled, holds no current generation or is dormant, and the record is then
that of R111; outside Off a probe expiry is held (R112); a closed shop's tunnel counts no miss and is never Faulted(Silent) (R116,
R124); and what belongs to one state is empty in the others (R119, R121, R122). -/
abbrev Tunnel.HealthOk (x : Tunnel) : Prop :=
  ((x.cfg.enabled = false ∨ x.cur = none ∨ x.dormant = true) ↔ x.health.state = .off)
    ∧ (x.health.state = .off → x.health = x.health.toOff)
    ∧ (x.health.state ≠ .off → x.health.expiry.isSome)
    ∧ (x.shop = .closed → x.health.state ≠ .faultedSilent ∧ x.health.miss = 0)
    ∧ (x.health.state ≠ .seeding → x.health.seeds = [])
    ∧ (x.health.state ≠ .suspect → x.health.suspect = 0)
    ∧ (x.health.state ≠ .faultedDelay → x.health.settle = 0 ∧ x.health.snapshot = none)

/-- Every health record is so. -/
abbrev State.HealthOk (s : State) : Prop := ∀ t : TunnelId, (s.tun t).HealthOk

/-- The filters, the deviations, the reference seed and the seed samples lie within the bounds of R127. -/
abbrev Health.InBounds (h : Health) : Prop :=
  (0 ≤ h.fast ∧ h.fast ≤ 1048560) ∧ (0 ≤ h.slow ∧ h.slow ≤ 1048560) ∧ (0 ≤ h.base ∧ h.base ≤ 1048560)
    ∧ (-1048560 ≤ h.dev ∧ h.dev ≤ 1048560) ∧ (-3145424 ≤ h.comp ∧ h.comp ≤ 3145424)
    ∧ h.refSeed ≤ 65535 ∧ h.settle ≤ 255 ∧ ∀ n ∈ h.seeds, 1 ≤ n ∧ n ≤ 65535

/-- Every tunnel's health arithmetic, rate estimate and sample count stay within their bounds (R82, R83, R117, R127, R130). -/
abbrev State.ArithmeticOk (s : State) : Prop :=
  s.ProfilesOk ∧ ∀ t : TunnelId, (s.tun t).health.InBounds ∧ (s.tun t).rate ≤ 1048560 ∧ (s.tun t).sample ≤ 65535

/-- What a tunnel has used stays within the limits of its profile `p`: the sequence numbers of its current generation (R35) and of
generation 0 (R36), its data frames waiting (R99, R100), and its seed samples, suspect count and miss count (R127). -/
abbrev Tunnel.WithinLimits (p : Profile) (x : Tunnel) : Prop :=
  (∀ c ∈ x.cur, c.lastSeq ≤ p.frameLimit ∧ c.age ≤ 65535)
    ∧ (∀ g ∈ x.gen0, g.lastSeq < 4294967295)
    ∧ (x.cur = none → x.dataFrames = 0)
    ∧ x.dataFrames ≤ p.dataLimit
    ∧ x.health.seeds.length < p.seedCount
    ∧ (x.health.state = .suspect → x.health.suspect < p.suspectCount)
    ∧ x.health.miss ≤ p.missLimit
    ∧ (x.health.state ≠ .faultedSilent → x.health.miss < p.missLimit)

/-- Every tunnel is within the limits of its profile. -/
abbrev State.LimitsOk (s : State) : Prop := ∀ t : TunnelId, (s.tun t).WithinLimits (s.prof t)

/-! ### The terms in which the statements speak of commands -/

/-- The Agent takes the command under this bridge's own label, with none in progress (R162, R166). -/
abbrev Taken (h : CmdHeader) (s : State) : Prop := s.rstLow = false ∧ h.broadcast = none ∧ s.progress = none

/-- The station address learned from a command (R156). -/
def State.learned (s : State) (h : CmdHeader) : State := { s with station := some h.source }

/-- The reply to a command offered to the office transmit queue (R164). -/
def State.answered (s : State) (h : CmdHeader) (code : Byte) (st : Status) (payload : List Byte) : State :=
  sendReply h.source h.tag code st payload s

/-- Office frame `f` maps to tunnel `t` through the active interval table (R8). -/
def State.MapsTo (s : State) (f : EthFrame) (t : TunnelId) : Prop :=
  f.isIPv4 = true ∧ ∃ i, coveringEntry s.intervals (storeKey s.keyOffset f) = some i ∧ s.intervals[i].action = .tunnel
    ∧ s.intervals[i].base.val + storeKey s.keyOffset f - lowerBound s.intervals i = t.val

/-- Office frame `f` is no store status message that changes the shop state of tunnel `t` (R16, R17). -/
abbrev State.Unsnooped (s : State) (f : EthFrame) (t : TunnelId) : Prop :=
  ∀ shop ∈ statusMessage s.statusPort s.statusType f, (s.tun t).cfg.snoop = false ∨ (s.tun t).shop = shop

/-- The oldest held frame is `f`, and the lookup stage may take it (R1, R11). -/
abbrev State.Holds (s : State) (f : EthFrame) (rest : List EthFrame) : Prop :=
  s.rstLow = false ∧ s.paused = false ∧ s.holding = f :: rest

/-- The numbers accepted, in order, of a run of arrivals judged by a replay window (R44). -/
def Window.accepting (w : Window) : List Nat → List Nat
  | [] => []
  | n :: ns =>
    match w.judge n with
    | .accept => n :: (w.accepted n).accepting ns
    | .replay => w.accepting ns
    | .tooOld => w.accepting ns

/-- The generator's state after `k` steps (R90). -/
def lfsrRun (k : Nat) (x : BitVec 16) : BitVec 16 := Nat.repeat lfsrStep k x

/-- An entry covers a store key (R7). -/
abbrev Covers (v : Vector Interval 48) (i : EntryId) (key : Nat) : Prop := key < separatorOf v i ∧ lowerBound v i ≤ key

/-- A delivered frame with a well-formed header `h` names tunnel `t`, which is enabled and holds a secret, and the frame opens to
`body` under the context `m` that it matches, with a number its window accepts (R41 to R44). -/
structure ValidAt (s : State) (d : Delivered) (t : TunnelId) (h : TunnelHeader) (m : Match) (k : KeyContext) (body : List Byte) :
    Prop where
  isTunnelFrame : d.frame.etherType = typeTunnel
  header : wellFormedHeader d.frame = some (h, t)
  active : (s.tun t).cfg.enabled = true ∧ (s.tun t).keyState ≠ .noSecret
  matched : (s.tun t).matching h = some (m, k)
  opened : k.opens h d.frame = some body
  fresh : k.window.judge h.sequence.toNat = .accept

end Sys2Proof.Machine
end

