-- ==== Sys2Proof/Certificates/Slice0/Obligations.lean ====
section
/-! DEFINITION. The statements. The first group is about the step and the queue, then the promises about every state, then the
arithmetic and the wire formats, then one statement or more for each command, family by family in the table's order. -/

open Sys2Proof Sys2Proof.Machine

/-! ### The step and the queue -/

/-- The step runs the command at the front of the queue on the state with the queue's rest; on an empty queue it idles, which is
the model's choice (log entry 14). -/
def Obligations.StepRunsTheFrontCommand : Prop :=
  (∀ (c : Instr) (rest : List Instr) (s : State), s.pending = c :: rest → step s = exec c { s with pending := rest })
    ∧ ∀ s : State, s.pending = [] → step s = .next s

/-- Every command, with whatever operands and in whatever state, completes with a next state, and leaves the queue of waiting commands
as it is. The queue is the model's own (log entry 15), and that the resets leave it too is the model's choice (log entry 7). -/
def Obligations.CommandsLeaveTheQueue : Prop :=
  ∀ (c : Instr) (s : State), ∃ s', exec c s = .next s' ∧ s'.pending = s.pending

/-- While RST_N is low the bridge takes no frame, no command and no event but the pin's own (R171): only the carrier signals of its
links move. That these signals are followed meanwhile is the model's choice (log entry 9). -/
def Obligations.NothingIsTakenInReset : Prop :=
  ∀ (c : Instr) (s : State), s.rstLow = true → c ≠ .pinResetAssert → (∀ straps, c ≠ .pinResetRelease straps) →
    ∃ s', exec c s = .next s' ∧ { s' with uplinks := s.uplinks, cascadeUp := s.cascadeUp } = s
      ∧ ∀ u : UplinkId, { s'.uplink u with carrier := (s.uplink u).carrier } = s.uplink u

/-! ### What holds of every state -/

/-- After a reset, whatever the straps, every promise below holds. -/
def Obligations.ResetIsSound : Prop :=
  ∀ straps : BitVec 6, let s := State.afterReset straps
    s.FaultQueueOk ∧ s.IndicatorOk ∧ s.QueuesOk ∧ s.SlotsOk ∧ s.WaitingOk ∧ s.SettingsOk ∧ s.KeyingOk ∧ s.DerivationsOk
      ∧ s.WindowsOk ∧ s.HealthOk ∧ s.ArithmeticOk ∧ s.LimitsOk

/-- No two fault queue records share both kind and subject, and the queue never holds more than 64 (R150). FAULT_IND is at its active
level exactly when the summary holds a flag of the indicator mask, and high while RST_N is low (R161). -/
def Obligations.StepsKeepTheFaultReporter : Prop :=
  (∀ s s' : State, s.FaultQueueOk → step s = .next s' → s'.FaultQueueOk)
    ∧ (∀ s s' : State, s.IndicatorOk → step s = .next s' → s'.IndicatorOk)

/-- The holding list, the office transmit queue and the cascade forwarding list stay within 256, 512 and 16 frames (R1, R53, R163), and
the slots in use never exceed 4096 (R98). -/
def Obligations.StepsKeepTheBuffers : Prop :=
  (∀ s s' : State, s.QueuesOk → step s = .next s' → s'.QueuesOk)
    ∧ (∀ s s' : State, s.SlotsOk → step s = .next s' → s'.SlotsOk)

/-- A tunnel is on a waiting list exactly when its egress queue is not empty, on that of its active group only, and once (R102). -/
def Obligations.StepsKeepTheWaitingLists : Prop :=
  ∀ s s' : State, s.WaitingOk → step s = .next s' → s'.WaitingOk

/-- Every stored profile and setting stays in its range, the generator never reaches 0, and the label is never the broadcast label
(R6, R28, R90, R157, R165). -/
def Obligations.StepsKeepTheSettings : Prop :=
  ∀ s s' : State, s.SettingsOk → step s = .next s' → s'.SettingsOk

/-- The keying state of every tunnel goes with the contexts, the bookkeeping and the generation numbers that R55, R56 and R75 give
it, and with its enabled and dormant fields (R143). -/
def Obligations.StepsKeepTheKeying : Prop :=
  ∀ s s' : State, s.KeyingOk → step s = .next s' → s'.KeyingOk

/-- A tunnel appears at most once in the derivation queue together with the derivation in flight, and is then BOOTSTRAP or DERIVING
with that derivation (R59). -/
def Obligations.StepsKeepTheDerivations : Prop :=
  ∀ s s' : State, s.DerivationsOk → step s = .next s' → s'.DerivationsOk

/-- Every replay window holds only numbers that it covers, each once (R44). -/
def Obligations.StepsKeepTheWindows : Prop :=
  ∀ s s' : State, s.WindowsOk → step s = .next s' → s'.WindowsOk

/-- Health is Off exactly while a tunnel is disabled, holds no current generation or is dormant (R111), and the fields of the record
belong to their states (R112, R119, R121, R122, R124). The keying promise is a premise: it says which tunnels may leave Off. -/
def Obligations.StepsKeepTheHealth : Prop :=
  ∀ s s' : State, s.KeyingOk → s.HealthOk → step s = .next s' → s'.HealthOk

/-- The health filters and deviations, the rate estimate and the sample count stay within their bounds (R83, R127, R130). -/
def Obligations.StepsKeepTheArithmetic : Prop :=
  ∀ s s' : State, s.ArithmeticOk → step s = .next s' → s'.ArithmeticOk

/-- No generation assigns a number above its limit (R35, R36), no egress queue holds more data frames than its limit (R99, R100), and
the health counts stay below their limits (R127). The premises say that a tunnel in service keeps its profile. -/
def Obligations.StepsKeepTheLimits : Prop :=
  ∀ s s' : State, s.KeyingOk → s.HealthOk → s.LimitsOk → step s = .next s' → s'.LimitsOk

/-! ### Arithmetic and judgements -/

/-- The store key is the 16 bits of the destination address that begin at the key field offset, the first its most significant, and
nothing else of the frame plays a part (R5). -/
def Obligations.StoreKeyBits : Prop :=
  (∀ (offset : Nat) (f : EthFrame), offset ≤ 16 → storeKey offset f < 65536
      ∧ ∀ i, i < 16 → (BitVec.ofNat 16 (storeKey offset f)).getMsbD i = (be32At f.bytes 30).getMsbD (offset + i))
    ∧ ∀ (offset : Nat) (f g : EthFrame), be32At f.bytes 30 = be32At g.bytes 30 → storeKey offset f = storeKey offset g

/-- Some entry covers every store key, from the separator of the entry before it up to its own, 65536 for entry 47, and the lookup finds
the lowest-numbered one (R7, R8); in a table that passes the check of
APPLY_TABLES no other entry covers the key, and the check passes exactly when no separator of entries 0..46 is lower than one before
it (R10). -/
def Obligations.EveryKeyIsCovered : Prop :=
  (∀ (v : Vector Interval 48) (key : Nat), key < 65536 →
     ∃ i, coveringEntry v key = some i ∧ Covers v i key ∧ (∀ j, j < i → ¬ Covers v j key)
       ∧ (separatorsRise v = true → ∀ j, Covers v j key → j = i))
    ∧ (∀ (v : Vector Interval 48) (i j : EntryId) (key : Nat),
       separatorOf v i = (if i = 47 then 65536 else v[i].separator.toNat) ∧ lowerBound v 0 = 0
         ∧ (j.val = i.val + 1 → lowerBound v j = separatorOf v i)
         ∧ (Covers v i key ↔ lowerBound v i ≤ key ∧ key < separatorOf v i))
    ∧ (∀ v : Vector Interval 48, separatorsRise v = true ↔
       ∀ i j : EntryId, i ≤ j → j.val < 47 → v[i].separator.toNat ≤ v[j].separator.toNat)

/-- No sequence number is accepted twice by a replay window, and each is judged as the table of R44 says. -/
def Obligations.WindowAcceptsOnce : Prop :=
  (∀ ns : List Nat, (Window.empty.accepting ns).Nodup)
    ∧ ∀ (w : Window) (n : Nat), w.Ok → 1 ≤ n →
        (w.judge n = .accept ↔ w.high < n ∨ (w.high ≤ n + 63 ∧ n ≤ w.high ∧ n ∉ w.seen))
          ∧ (w.judge n = .replay ↔ n ≤ w.high ∧ n ∈ w.seen)
          ∧ (w.judge n = .tooOld ↔ n + 63 < w.high)
          ∧ (w.judge n = .accept → (w.accepted n).high = max w.high n ∧ n ∈ (w.accepted n).seen
              ∧ ∀ m, m ≠ n → (m ∈ (w.accepted n).seen ↔ m ∈ w.seen ∧ max w.high n ≤ m + 63))

/-- The rate filter moves R toward 16 n by the truncated step of R83, never past it, and always when they differ by 256 or more. W counts
the largest jitter delay, every response allowance and the derivation allowance (R84); H is R W / 160 rounded up, saturating (R85); a
renewal is due when the frames used and H reach L - 16, or the age and W reach A_max (R86, R87). -/
def Obligations.RateAndDueTests : Prop :=
  (∀ rate sample beta : Nat, 1 ≤ beta → beta ≤ 255 →
     ((rateFilter rate sample beta : Nat) : Int) = rate + Int.tdiv ((16 * sample - rate) * beta) 256
       ∧ min rate (16 * sample) ≤ rateFilter rate sample beta ∧ rateFilter rate sample beta ≤ max rate (16 * sample)
       ∧ (rate + 256 ≤ 16 * sample → rate < rateFilter rate sample beta)
       ∧ (16 * sample + 256 ≤ rate → rateFilter rate sample beta < rate))
    ∧ ((∀ (s : State) (p : Profile), 1 ≤ s.jitterRange →
         leadTime s p = s.jitterBase + (s.jitterRange - 1) + p.response * (1 + p.retryLimit) + p.derivation)
       ∧ (∀ rate lead h : Nat, h ≤ 4294967295 → (horizon rate lead ≤ h ↔ rate * lead ≤ 160 * h ∨ h = 4294967295))
       ∧ ∀ (c : CurGen) (p : Profile) (rate lead : Nat), 16 ≤ p.frameLimit →
           (renewalDue c p rate lead = true ↔
             p.frameLimit ≤ c.lastSeq + horizon rate lead + 16 ∨ p.ageLimit * 100 ≤ c.age * 100 + lead))

/-- The generator of R90: a state that is not 0 never becomes 0, and from any such state it passes through all 65535 values other
than 0 before it repeats. -/
def Obligations.GeneratorHasFullPeriod : Prop :=
  (∀ x : BitVec 16, lfsrStep x = (x >>> 1) ^^^ (if x.getLsbD 0 then 0xB400 else 0))
    ∧ ∀ x : BitVec 16, x ≠ 0 → (∀ y : BitVec 16, y ≠ 0 → ∃ k, k < 65535 ∧ lfsrRun k x = y) ∧ lfsrRun 65535 x = x
        ∧ ∀ k, 0 < k → k < 65535 → lfsrRun k x ≠ x

/-- A Follower of a Reference subtracts D_ref w / 4096, truncated toward zero, where D_ref is the Reference's D in Normal and Suspect
and 0 otherwise; every other tunnel subtracts nothing (R128, R129, R130). -/
def Obligations.CompensationTerm : Prop :=
  ∀ (s : State) (t : TunnelId), let c := (s.tun t).cfg; let r := s.tun c.reference
    (c.role = .follower ∧ r.cfg.role = .reference ∧ (r.health.state = .normal ∨ r.health.state = .suspect) →
        compensation s t = Int.tdiv (r.health.dev * c.weight.val) 4096
          ∧ (-1048560 ≤ r.health.dev → r.health.dev ≤ 1048560 →
              -2096864 ≤ compensation s t ∧ compensation s t ≤ 2096864))
      ∧ (¬ (c.role = .follower ∧ r.cfg.role = .reference ∧ (r.health.state = .normal ∨ r.health.state = .suspect)) →
          compensation s t = 0)

/-! ### Wire formats -/

/-- The tunnel header's twelve bytes and its fields determine one another (R174). The frame enciphered under the current generation:
addressed to the peer, from the bridge's label, its header with version 1, the kind, the generation, the tunnel, the next sequence
number, the length and a zero epoch, and zero bytes after the tag up to 60 bytes; and the OFFER under generation 0, addressed alike,
with the installed epoch, the target and the nonce. Each is sealed under its context's key, its header authenticated, with the nonce
of salt, tunnel, generation and number (R37, R38, R39, R174, R175). Ciphertext stands as what was enciphered, the model's reading of
section 3.2 (log entry 3). -/
def Obligations.TunnelFrameLayout : Prop :=
  ((∀ h : TunnelHeader, h.bytes.length = 12 ∧ TunnelHeader.ofBytes h.bytes = some h)
     ∧ ∀ (bs : List Byte) (h : TunnelHeader), TunnelHeader.ofBytes bs = some h → h.bytes = bs)
    ∧ ((∀ (s : State) (t : TunnelId) (c : CurGen) (kind : BitVec 4) (body : List Byte),
         let f := currentFrame s t c kind body
         f.rest = List.replicate (18 - body.length) 0 ∧ f.dst = (s.tun t).cfg.peer ∧ f.src = (0x024C5800 : BitVec 32) ++ s.label
           ∧ f.etherType = 0x88B6 ∧ TunnelHeader.ofBytes f.head = some {
               versionKind := (1 : BitVec 4) ++ kind, generation := c.number, tunnel := BitVec.ofNat 16 t.val,
               sequence := BitVec.ofNat 32 (c.lastSeq + 1), length := BitVec.ofNat 16 body.length, epoch := 0 }
           ∧ f.tail = max (body.length + 16) 34 ∧ ∃ k, f.cipher = some k ∧ k.body = body ∧ k.aad = f.head ∧ k.key = c.ctx.key
             ∧ k.nonce = c.ctx.salt ++ BitVec.ofNat 16 t.val ++ c.number ++ (0 : Byte) ++ BitVec.ofNat 32 (c.lastSeq + 1))
       ∧ ∀ (s : State) (t : TunnelId) (g : Gen0) (target : BitVec 8) (nonce : BitVec 128),
           let f := offerFrame s t g target nonce
           TunnelHeader.ofBytes f.head = some {
               versionKind := 0x14, generation := 0, tunnel := BitVec.ofNat 16 t.val,
               sequence := BitVec.ofNat 32 (g.lastSeq + 1), length := 18, epoch := g.epoch }
             ∧ f.dst = (s.tun t).cfg.peer ∧ f.src = (0x024C5800 : BitVec 32) ++ s.label ∧ f.etherType = 0x88B6
             ∧ f.rest = [] ∧ f.tail = 34 ∧ ∃ k, f.cipher = some k ∧ k.key = g.ctx.key ∧ k.aad = f.head
               ∧ k.nonce = g.ctx.salt ++ BitVec.ofNat 16 t.val ++ (0 : Byte) ++ (0 : Byte) ++ BitVec.ofNat 32 (g.lastSeq + 1)
               ∧ k.body.length = 18 ∧ byteAt k.body 0 = target ∧ byteAt k.body 1 = 0
               ∧ BitVec.ofNat 128 (beNatAt k.body 2 16) = nonce)

/-- A well-formed command, written as a management frame under a bridge's label (R176), is a good management frame from which the same
command is read, every operand as it was. A wrapped block travels with its frame as what it wraps, the model's reading of R57 (log
entry 4). -/
def Obligations.CommandFrameRoundTrip : Prop :=
  ∀ (c : Instr) (h : CmdHeader) (code : Byte) (pl : List Byte) (dst : Mac) (label : BitVec 16) (f : EthFrame),
    c.wellFormed = true → c.wire = some (h, code, pl) → h.broadcast = none → label ≠ broadcastLabel →
    frameOfCommand dst label c = some f →
      f.good true = true ∧ f.etherType = typeManagement ∧ be16At f.bytes 14 = label ∧ commandOfFrame f h.prov = some c

/-- A management frame under this bridge's label or the broadcast label, once it arrives, does what the row of its command does (R2,
R162, R164). How the rows' operands stand for a frame is the model's choice (log entry 15). -/
def Obligations.ManagementFrameRunsItsCommand : Prop :=
  ∀ (a : OfficeArrival) (s : State) (c : Instr), a.frame.good a.fcsOk = true → a.frame.etherType = typeManagement →
    commandOfFrame a.frame a.prov = some c → s.label ≠ broadcastLabel →
    (be16At a.frame.bytes 14 = s.label ∨ be16At a.frame.bytes 14 = broadcastLabel) →
      exec (.officeFrameArrival a) s = exec c s

/-- Frames of the bridge and frames of a shop never share a nonce under one key, and two frames of one side share one only when they
share tunnel, generation and sequence number (R37, R43). A shop's frame opens under the context that enciphered it, and under no
context with another key, nor with another header; a frame that the bridge enciphered under a context never opens under it. Ciphertext
stands as what was enciphered, the model's reading of section 3.2 (log entry 3). -/
def Obligations.FramesOpenUnderTheirContextAlone : Prop :=
  (∀ (salt : BitVec 32) (tun tun' : BitVec 16) (gen gen' : BitVec 8) (seq seq' : BitVec 32),
     frameNonce (inboundSalt salt) tun gen seq ≠ frameNonce salt tun' gen' seq'
       ∧ (frameNonce salt tun gen seq = frameNonce salt tun' gen' seq' → tun = tun' ∧ gen = gen' ∧ seq = seq'))
    ∧ ((∀ (k : KeyContext) (h : TunnelHeader) (f : CarrierFrame) (body : List Byte), body.length = h.length.toNat →
         f.cipher = some { key := k.key, nonce := frameNonce (inboundSalt k.salt) h.tunnel h.generation h.sequence,
                           aad := h.bytes, body := body } →
         k.opens h f = some body
           ∧ (∀ k' : KeyContext, k'.key ≠ k.key → k'.opens h f = none) ∧ ∀ h' : TunnelHeader, h' ≠ h → k.opens h' f = none)
       ∧ ∀ (s : State) (t : TunnelId) (c : CurGen) (kind : BitVec 4) (body : List Byte) (h : TunnelHeader),
           c.ctx.opens h (currentFrame s t c kind body) = none)

/-! ### The Fault Reporter and the office transmit queue -/

/-- A post updates the record of its kind and subject in place, or makes a record at the tail while there is room, or is lost, raising
OVERFLOW and its count; the kind's flag is set in every case and the pin follows (R150, R151, R152, R161). In event mode a post that
sets a flag of the event mask sends a notice and arms both expiries, or leaves a notice pending under the hold-off; any other post is
its record alone (R158, R160). A notice that the office transmit queue drops is counted and recorded as OFFICE_OVERRUN with the free
slots, both expiries armed all the same (R53, R158), and a flag of the event mask that this record newly sets leaves a notice pending,
the model's reading of R160 (log entry 12). Each kind has its code and flag (R149, R152), and a notice its layout (R158, R177). That
OVERFLOW counts among those flags, and that two newly set make one notice, is the model's choice (log entry 21). -/
def Obligations.PostAtTheFaultReporter : Prop :=
  (∀ (k : FaultKind) (subject : Option Nat) (d : BitVec 32) (s : State), let s' := recordPost k subject d s
     ((∃ r ∈ s.faults, r.kind = k ∧ r.subject = subject) →
         s' = { s with
           faults := s.faults.map fun r => if r.kind = k ∧ r.subject = subject then
             { r with count := min (r.count + 1) 65535, last := s.tick, detail := d } else r
           flags := s'.flags, faultInd := s'.faultInd } ∧ s'.flags = s.flags ||| flagBit k.flag)
       ∧ ((∀ r ∈ s.faults, ¬ (r.kind = k ∧ r.subject = subject)) → s.faults.length < 64 →
           s' = { s with
             faults := s.faults ++ [{ kind := k, subject := subject, detail := d, count := 1, first := s.tick, last := s.tick }]
             flags := s'.flags, faultInd := s'.faultInd } ∧ s'.flags = s.flags ||| flagBit k.flag)
       ∧ ((∀ r ∈ s.faults, ¬ (r.kind = k ∧ r.subject = subject)) → 64 ≤ s.faults.length →
           s' = { s with overflow := min (s.overflow + 1) 65535, flags := s'.flags, faultInd := s'.faultInd }
             ∧ s'.flags = s.flags ||| flagBit k.flag ||| flagBit 10)
       ∧ s'.faultInd = s'.indicatorLevel)
    ∧ (∀ (k : FaultKind) (subject : Option Nat) (d : BitVec 32) (s : State), let r := recordPost k subject d s
       let newFlag := s.resetFlag = false ∧ s.noticeMode = .event ∧ ∃ n, n < 11 ∧ s.eventMask.getLsbD n = true
         ∧ s.flags.getLsbD n = false ∧ r.flags.getLsbD n = true
       (¬ newFlag → post k subject d s = r)
         ∧ (newFlag → s.holdoffExpiry.isSome → post k subject d s = { r with noticePending := true })
         ∧ (newFlag → s.holdoffExpiry = none → s.station = none →
             post k subject d s = { r with
               holdoffExpiry := some (s.after s.noticeHoldoff), reportExpiry := some (s.after s.reportInterval) })
         ∧ ∀ dst, newFlag → s.holdoffExpiry = none → s.station = some dst → s.officeQueue.length < 512 → 0 < s.freeSlots →
             post k subject d s = { r with
               holdoffExpiry := some (s.after s.noticeHoldoff), reportExpiry := some (s.after s.reportInterval)
               officeQueue := s.officeQueue ++ [{ kind := .notice, frame := noticeFrame dst s.label r.flags r.faults.length }] })
    ∧ (∀ (k : FaultKind) (subject : Option Nat) (d : BitVec 32) (s : State) (dst : Mac), let r := recordPost k subject d s
       let newFlag := s.resetFlag = false ∧ s.noticeMode = .event ∧ ∃ n, n < 11 ∧ s.eventMask.getLsbD n = true
         ∧ s.flags.getLsbD n = false ∧ r.flags.getLsbD n = true
       let dropped := recordPost .officeOverrun none (BitVec.ofNat 32 s.freeSlots) { r with
         holdoffExpiry := some (s.after s.noticeHoldoff), reportExpiry := some (s.after s.reportInterval)
         counters := { s.counters with officeOverrun := satInc s.counters.officeOverrun } }
       let again := ∃ n, n < 11 ∧ s.eventMask.getLsbD n = true ∧ r.flags.getLsbD n = false ∧ dropped.flags.getLsbD n = true
       newFlag → s.holdoffExpiry = none → s.station = some dst → 512 ≤ s.officeQueue.length ∨ s.freeSlots = 0 →
         (again → post k subject d s = { dropped with noticePending := true })
           ∧ (¬ again → post k subject d s = dropped))
    ∧ (∀ k : FaultKind, (k.code, k.flag) = match k with
        | .delayFault => (1, 1) | .silentFault => (2, 1) | .release => (3, 2) | .seedError => (4, 3) | .reseed => (5, 3)
        | .renewFail => (6, 4) | .keyExhausted => (7, 4) | .genUnconfirmed => (8, 4) | .secretExhausted => (9, 4)
        | .tagFail => (10, 5) | .replay => (11, 5) | .classDrop => (12, 6) | .mapRange => (13, 6) | .uplinkDown => (14, 7)
        | .uplinkUp => (15, 7) | .mgmtMisdirected => (16, 8) | .tailDrop => (17, 9) | .officeOverrun => (18, 9))
    ∧ ∀ (dst : Mac) (label : BitVec 16) (flags : BitVec 11) (depth : Nat), let bs := (noticeFrame dst label flags depth).bytes
        bs.length = 26 ∧ be48At bs 0 = dst ∧ be48At bs 6 = (0x024C5800 : BitVec 32) ++ label ∧ be16At bs 12 = 0x88B5
          ∧ be16At bs 14 = label ∧ byteAt bs 16 = 0xFF ∧ byteAt bs 17 = 0 ∧ be16At bs 18 = 0 ∧ be16At bs 20 = 4
          ∧ be16At bs 22 = flags.setWidth 16 ∧ byteAt bs 24 = BitVec.ofNat 8 depth ∧ byteAt bs 25 = 0

/-- A reply joins the office transmit queue while it holds fewer than 512 frames and a slot is free, and is otherwise dropped, counted
and recorded with the free slots; a clear frame needs more than 64 free slots (R53, R164). The free slots are 4096 less the frames of
every egress queue, of the office transmit queue and in transmission (R98); that a granted frame counts there until its transmission
ends follows R98 against R15's table (log entry 23). An answer is a reply to the command's sender, under the bridge's label, with the
code, the status, the tag and the payload in the layout of a reply (R164, R176). -/
def Obligations.OfficeQueueAdmits : Prop :=
  ∀ (s : State) (k : OfficeKind) (f : EthFrame),
    (s.officeQueue.length < 512 → 0 < s.freeSlots →
        offerReserved k f s = { s with officeQueue := s.officeQueue ++ [{ kind := k, frame := f }] })
      ∧ (s.officeQueue.length < 512 → 64 < s.freeSlots →
        offerClear f s = { s with officeQueue := s.officeQueue ++ [{ kind := .clear, frame := f }] })
      ∧ (512 ≤ s.officeQueue.length ∨ s.freeSlots = 0 → offerReserved k f s = officeOverrun s)
      ∧ (512 ≤ s.officeQueue.length ∨ s.freeSlots ≤ 64 → offerClear f s = officeOverrun s)
      ∧ officeOverrun s = post .officeOverrun none (BitVec.ofNat 32 s.freeSlots)
          { s with counters := { s.counters with officeOverrun := satInc s.counters.officeOverrun } }
      ∧ s.freeSlots = 4096 - (((List.finRange 1024).map fun t => (s.tun t).egress.length).sum + s.officeQueue.length
          + (if s.officeTx = none then 0 else 1) + ((List.finRange 4).filter fun u => decide ((s.uplink u).tx ≠ none)).length)
      ∧ ∀ (h : CmdHeader) (code : Byte) (st : Status) (payload : List Byte),
          let reply := replyFrame h.source s.label code st h.tag payload
          let bs := reply.bytes
          s.answered h code st payload = offerReserved .reply reply s
            ∧ (be48At bs 0 = h.source ∧ be48At bs 6 = (0x024C5800 : BitVec 32) ++ s.label ∧ be16At bs 12 = 0x88B5
              ∧ be16At bs 14 = s.label ∧ byteAt bs 16 = code ||| 0x80 ∧ byteAt bs 17 = st.code ∧ be16At bs 18 = h.tag
              ∧ be16At bs 20 = BitVec.ofNat 16 payload.length ∧ bs.drop 22 = payload)
            ∧ st.code = match st with
              | .ok => 0 | .busy => 1 | .unknownCmd => 2 | .badArg => 3 | .badState => 4 | .badTable => 5 | .wrapFail => 6
              | .locked => 7 | .badLabel => 8

/-! ### OFFICE_FRAME_ARRIVAL and LOOKUP_TAKE_FRAME -/

/-- An office frame is good with a good check sequence and 64..1518 bytes in all (R1). One with a receive error is counted, a
tunnel-type frame is dropped and counted, and any other frame that is no management frame joins the holding list or is dropped as
OFFICE_HOLD_OVERRUN (R1, R2). A management frame under another label is forwarded, or misdirected (R162, R163). One under this
bridge's label, or under the broadcast label once it has been forwarded, is counted when malformed; is answered BAD_LABEL when it is
a broadcast other than IDENTIFY and RESET, BUSY while a command is in progress, UNKNOWN_CMD for a code that names no command and
BAD_ARG for a payload too short or an ERASE_KEYS scope, UPLINK request or RESET level that does not exist; and otherwise does what
its command's row does (R162, R164, R166, R169, R176). That a broadcast is answered BAD_LABEL before BUSY is the model's reading of
R164 against R166 (log entry 22). How the rows' operands stand for a frame is the model's choice (log entry 15). -/
def Obligations.OfficeFrameArrives : Prop :=
  (∀ (a : OfficeArrival) (s : State), s.rstLow = false →
     (a.frame.good a.fcsOk = true ↔ a.fcsOk = true ∧ 64 ≤ a.frame.bytes.length + 4 ∧ a.frame.bytes.length + 4 ≤ 1518)
       ∧ (a.frame.good a.fcsOk = false →
           exec (.officeFrameArrival a) s
             = .next { s with counters := { s.counters with officeRxError := satInc s.counters.officeRxError } })
       ∧ (a.frame.good a.fcsOk = true → a.frame.etherType = 0x88B6 →
           exec (.officeFrameArrival a) s
             = .next { s with counters := { s.counters with tunnelTypeIn := satInc s.counters.tunnelTypeIn } })
       ∧ (a.frame.good a.fcsOk = true → a.frame.etherType ≠ 0x88B5 → a.frame.etherType ≠ 0x88B6 →
           s.holding.length < 256 →
           exec (.officeFrameArrival a) s = .next { s with holding := s.holding ++ [a.frame] })
       ∧ (a.frame.good a.fcsOk = true → a.frame.etherType ≠ 0x88B5 → a.frame.etherType ≠ 0x88B6 →
           256 ≤ s.holding.length →
           exec (.officeFrameArrival a) s
             = .next { s with counters := { s.counters with officeHoldOverrun := satInc s.counters.officeHoldOverrun } }))
    ∧ (∀ (a : OfficeArrival) (s : State), s.rstLow = false → a.frame.good a.fcsOk = true → a.frame.etherType = 0x88B5 →
       let carried := be16At a.frame.bytes 14
       (carried ≠ s.label → carried ≠ 0xFFFF → s.cascadeUp = true → s.cascadeList.length < 16 →
           exec (.officeFrameArrival a) s
             = .next { s with cascadeList := s.cascadeList ++ [{ frame := a.frame, awaited := false }] })
         ∧ (carried ≠ s.label → carried ≠ 0xFFFF → s.cascadeUp = true → 16 ≤ s.cascadeList.length →
             exec (.officeFrameArrival a) s
               = .next { s with counters := { s.counters with cascadeDrop := satAdd s.counters.cascadeDrop 1 } })
         ∧ (carried ≠ s.label → carried ≠ 0xFFFF → s.cascadeUp = false →
             exec (.officeFrameArrival a) s = .next (post .mgmtMisdirected none (carried.setWidth 32) s)))
    ∧ (∀ (a : OfficeArrival) (s : State), s.rstLow = false → a.frame.good a.fcsOk = true → a.frame.etherType = 0x88B5 →
       let bytes := a.frame.bytes
       let own := be16At bytes 14 = s.label
       let wide := be16At bytes 14 ≠ s.label ∧ be16At bytes 14 = 0xFFFF
       let n := (be16At bytes 20).toNat
       let code := byteAt bytes 16
       let h : CmdHeader := { source := be48At bytes 6, tag := be16At bytes 18 }
       let forwarded := (if s.cascadeUp = false then s
         else if s.cascadeList.length < 16 then
           { s with cascadeList := s.cascadeList ++ [{ frame := a.frame, awaited := false }] }
         else { s with counters := { s.counters with cascadeDrop := satAdd s.counters.cascadeDrop 1 } } : State)
       let refused :=
         (¬ (∃ k ∈ [(0x01, 0), (0x02, 2), (0x03, 0), (0x04, 0), (0x05, 7), (0x06, 3), (0x07, 0), (0x08, 1), (0x09, 6), (0x0A, 2),
               (0x0B, 1), (0x0C, 0), (0x0D, 42), (0x0E, 1), (0x0F, 18), (0x10, 2), (0x11, 58), (0x12, 3), (0x13, 2), (0x14, 3),
               (0x15, 2), (0x16, 5), (0x17, 6), (0x18, 2), (0x19, 3), (0x1A, 32), (0x1B, 1)],
             code.toNat = k.1 ∧ k.2 ≤ n)
           ∨ (code = 0x12 ∧ 1 < (byteAt bytes 24).toNat) ∨ (code = 0x19 ∧ 1 < (byteAt bytes 23).toNat)
           ∨ (code = 0x1B ∧ byteAt bytes 22 ≠ 1 ∧ byteAt bytes 22 ≠ 2 ∧ byteAt bytes 22 ≠ 3) : Prop)
       let why := if code = 0 ∨ 0x1B < code.toNat then Status.unknownCmd else Status.badArg
       (own → bytes.length < 22 + n →
           exec (.officeFrameArrival a) s
             = .next { s with counters := { s.counters with mgmtMalformed := satInc s.counters.mgmtMalformed } })
         ∧ (wide → bytes.length < 22 + n →
             exec (.officeFrameArrival a) s = .next { forwarded with
               counters := { forwarded.counters with mgmtMalformed := satInc s.counters.mgmtMalformed } })
         ∧ (own → 22 + n ≤ bytes.length → s.progress ≠ none →
             exec (.officeFrameArrival a) s = .next ((s.learned h).answered h code .busy []))
         ∧ (own → 22 + n ≤ bytes.length → s.progress = none → refused →
             exec (.officeFrameArrival a) s = .next ((s.learned h).answered h code why []))
         ∧ (wide → 22 + n ≤ bytes.length → code ≠ 0x01 → code ≠ 0x1B →
             exec (.officeFrameArrival a) s = .next (forwarded.answered h code .badLabel []))
         ∧ (wide → 22 + n ≤ bytes.length → code = 0x01 ∨ code = 0x1B → s.progress ≠ none →
             exec (.officeFrameArrival a) s = .next (forwarded.answered h code .busy []))
         ∧ (wide → 22 + n ≤ bytes.length → code = 0x1B → s.progress = none → refused →
             exec (.officeFrameArrival a) s = .next (forwarded.answered h code .badArg []))
         ∧ (own ∨ wide → 22 + n ≤ bytes.length → ¬ refused →
             ∃ c, commandOfFrame a.frame a.prov = some c ∧ (s.label ≠ 0xFFFF → exec (.officeFrameArrival a) s = exec c s)))

/-- A frame is IPv4 with type 0x0800, version 4, a header of at least 5 words and that many header bytes (R3). The lookup stage drops
a frame that is not IPv4, one whose interval says DROP and one that maps above tunnel 1023, each counted and the last two recorded;
while classification is paused or the list is empty it takes none (R3, R8, R11). That an event offered where it cannot occur changes
nothing is the model's choice (log entry 9). -/
def Obligations.LookupDrops : Prop :=
  (∀ f : EthFrame, let first := byteAt f.bytes 14
     f.isIPv4 = true ↔ f.etherType = 0x0800 ∧ first.toNat / 16 = 4 ∧ 5 ≤ first.toNat % 16
       ∧ 4 * (first.toNat % 16) ≤ (f.bytes.drop 14).length)
    ∧ (∀ (f : EthFrame) (rest : List EthFrame) (s : State), s.Holds f rest →
      (f.isIPv4 = false →
          exec .lookupTakeFrame s
            = .next { s with holding := rest, counters := { s.counters with nonIp := satInc s.counters.nonIp } })
        ∧ ∀ i, f.isIPv4 = true → coveringEntry s.intervals (storeKey s.keyOffset f) = some i →
          (s.intervals[i].action = .drop →
              exec .lookupTakeFrame s = .next (post .classDrop (some i.val) (BitVec.ofNat 32 (storeKey s.keyOffset f))
                { s with holding := rest, counters := { s.counters with classDrop := satInc s.counters.classDrop } }))
            ∧ (s.intervals[i].action = .tunnel →
                1023 < s.intervals[i].base.val + storeKey s.keyOffset f - lowerBound s.intervals i →
                exec .lookupTakeFrame s = .next (post .mapRange (some i.val) (BitVec.ofNat 32 (storeKey s.keyOffset f))
                  { s with holding := rest, counters := { s.counters with mapRange := satInc s.counters.mapRange } })))
    ∧ ∀ s : State, s.rstLow = false → (s.paused = true ∨ s.holding = []) → exec .lookupTakeFrame s = .next s

/-- A frame for a disabled tunnel, or for a tunnel without a current generation, is counted in NO_KEY, and in UNKEYED without a
hold-off it starts initial keying; a frame for an exhausted or expired generation, and one without room, are counted and recorded
(R12, R13, R14). Before these checks a frame wakes a dormant tunnel: one that kept its keys is then taken as an awake one, and one
that lost them is woken and its frame counted in NO_KEY (R12, R144, R145). A store status message comes to the same checks where it
changes no shop state. That a passed hold-off is an absent one is the model's choice (log entry 14), that the queue is read as it
stands at the frame's own event follows R15 against a row of R106 (log entry 20), and that a granted frame is among the slots in use
until its transmission ends follows R98 against R15's table (log entry 23). -/
def Obligations.TunnelChecksDrop : Prop :=
  ∀ (f : EthFrame) (rest : List EthFrame) (s : State) (t : TunnelId), s.Holds f rest → s.MapsTo f t → s.Unsnooped f t →
    let q : State := { s with holding := rest }
    let x := s.tun t
    let noKey := { x with counters := { x.counters with noKey := satInc x.counters.noKey } }
    (x.cfg.enabled = false → exec .lookupTakeFrame s = .next (settle t (q.setTun t noKey)))
      ∧ (x.dormant = false →
        (x.cfg.enabled = true → x.cur = none → x.keyState ≠ .unkeyed ∨ x.holdoff.isSome →
            exec .lookupTakeFrame s = .next (settle t (q.setTun t noKey)))
        ∧ (x.cfg.enabled = true → x.cur = none → x.keyState = .unkeyed → x.holdoff = none →
            exec .lookupTakeFrame s
              = .next (settle t (attempt t 1 (q.setTun t { noKey with attempts := 0, keyState := .offering 1 }))))
        ∧ (∀ c, x.cfg.enabled = true → x.cur = some c →
            (s.prof t).frameLimit - 16 < c.lastSeq + 1 ∨ (s.prof t).ageLimit ≤ c.age →
            exec .lookupTakeFrame s = .next (settle t (post .keyExhausted (some t.val) (BitVec.ofNat 32 c.lastSeq)
              (q.setTun t { x with counters := { x.counters with exhausted := satInc x.counters.exhausted } }))))
        ∧ ∀ c, x.cfg.enabled = true → x.cur = some c →
            ¬ ((s.prof t).frameLimit - 16 < c.lastSeq + 1 ∨ (s.prof t).ageLimit ≤ c.age) →
            (s.prof t).dataLimit ≤ x.dataFrames ∨ s.freeSlots ≤ 64 →
            exec .lookupTakeFrame s = .next (settle t (post .tailDrop (some t.val) (BitVec.ofNat 32 s.freeSlots)
              (q.setTun t { x with counters := { x.counters with tailDrop := satInc x.counters.tailDrop } }))))
      ∧ (x.dormant = true → x.cfg.enabled = true →
        (∀ c, x.cur = some c → ((wake t s).tun t).dormant = false ∧ ((wake t s).tun t).cur = some c
            ∧ exec .lookupTakeFrame s = exec .lookupTakeFrame (wake t s))
        ∧ (x.cur = none → let w := wake t q
            exec .lookupTakeFrame s = .next (settle t (w.setTun t { w.tun t with
              counters := { x.counters with noKey := satInc x.counters.noKey } }))))

/-- A frame that passes the checks is enciphered under the next sequence number of the current generation and joins the tail of its
tunnel's egress queue; FRAMES_OUT and the sample count rise, and a Closed tunnel's dormancy expiry is re-armed (R15, R37, R82, R102,
R140). A store status message is a UDP datagram, no later fragment, to the status port, which is not 0, with at least three payload
bytes: the status type and a state code 1, 2 or 3. It sets the shop state of its tunnel before the tunnel checks while snoop enabled
is set, and changes nothing while it is clear or the state is the one held (R16, R17). -/
def Obligations.OfficeFrameIsEnciphered : Prop :=
  (∀ (f : EthFrame) (rest : List EthFrame) (s : State) (t : TunnelId) (c : CurGen), s.Holds f rest → s.MapsTo f t →
     s.Unsnooped f t → (s.tun t).dormant = false → (s.tun t).cfg.enabled = true →
     (s.tun t).cur = some c → c.lastSeq + 1 ≤ (s.prof t).frameLimit - 16 → c.age < (s.prof t).ageLimit →
     (s.tun t).dataFrames < (s.prof t).dataLimit → 64 < s.freeSlots →
     let x := s.tun t
     let y := { x with
       cur := some { c with lastSeq := c.lastSeq + 1 }
       sample := min (x.sample + 1) 65535
       egress := x.egress ++ [currentFrame s t c kindData f.bytes]
       counters := { x.counters with framesOut := satInc x.counters.framesOut }
       dormancyExpiry := if x.shop = .closed then some (s.after ((s.prof t).dormancyTimeout * 100)) else x.dormancyExpiry
       dormancyDue := if x.shop = .closed then false else x.dormancyDue }
     let q := ({ s with holding := rest } : State).setTun t y
     exec .lookupTakeFrame s = .next (settle t
       (if x.egress = [] then q.setList x.cfg.activeGroup (s.list x.cfg.activeGroup ++ [t]) else q)))
    ∧ (∀ (f : EthFrame) (rest : List EthFrame) (s : State) (t : TunnelId), s.Holds f rest → s.MapsTo f t →
       let q : State := { s with holding := rest }
       (∀ shop : ShopState, statusMessage s.statusPort s.statusType f = some shop →
           (s.tun t).cfg.snoop = true → (s.tun t).shop ≠ shop →
           exec .lookupTakeFrame s = .next (settle t (tunnelChecks t f (changeShop t shop q))))
         ∧ (s.Unsnooped f t → exec .lookupTakeFrame s = .next (settle t (tunnelChecks t f q))))
    ∧ ∀ (port statusType : BitVec 16) (f : EthFrame) (shop : ShopState),
       let bytes := f.bytes
       let udp := 14 + 4 * ((byteAt bytes 14).toNat % 16)
       let length := (be16At bytes (udp + 4)).toNat
       let code := (byteAt bytes (udp + 10)).toNat
       statusMessage port statusType f = some shop ↔
         port ≠ 0 ∧ byteAt bytes 23 = 17 ∧ (be16At bytes 20).toNat % 8192 = 0 ∧ be16At bytes (udp + 2) = port
           ∧ 11 ≤ length ∧ udp + length ≤ bytes.length ∧ be16At bytes (udp + 8) = statusType
           ∧ ((code = 1 ∧ shop = .opened) ∨ (code = 2 ∧ shop = .closing) ∨ (code = 3 ∧ shop = .closed))

/-! ### Uplinks -/

/-- An Up port delivers a good frame and counts a receive error, of which the sixteenth in a row takes it to Errored with its record;
an Errored port comes back at a good frame where R96 says so, and any other Errored or Stopped port discards (R93, R95, R96). The loss
of a carrier takes an Up port to Errored with its record and becomes the cause of an Errored one; its return brings back an Errored
port with AutoRestart set whose cause it was. A signal that does not change is no event. The list of delivered frames is the model's
inference (log entry 5), the clock of an arrival inside its tick the model's choice (log entry 6), and so is that an event offered
where it cannot occur changes nothing (log entry 9). A frame is good with a good check sequence and 64..1560 bytes in all (R93). -/
def Obligations.UplinkPortEvents : Prop :=
  (∀ (f : CarrierFrame) (fcsOk : Bool), f.good fcsOk = true ↔
     fcsOk = true ∧ 64 ≤ 14 + f.head.length + f.tail + 4 ∧ 14 + f.head.length + f.tail + 4 ≤ 1560) ∧
  (∀ (u : UplinkId) (f : CarrierFrame) (fcsOk : Bool) (sub : Fin 100) (s : State), s.rstLow = false →
     let q := s.clockAt sub
     let x := s.uplink u
     (x.link = .up → f.good fcsOk = true →
         exec (.uplinkFrameReceive u f fcsOk sub) s = .next (q.setUplink u { x with
           delivered := x.delivered ++ [{ frame := f, arrival := q.clock }], rxCount := satInc x.rxCount, rxErrors := 0 }))
       ∧ (x.link = .up → f.good fcsOk = false → x.rxErrors + 1 < 16 →
           exec (.uplinkFrameReceive u f fcsOk sub) s
             = .next (q.setUplink u { x with rxError := satInc x.rxError, rxErrors := x.rxErrors + 1 }))
       ∧ (x.link = .up → f.good fcsOk = false → x.rxErrors = 15 →
           let r := post .uplinkDown (some u.val) 2 (q.setUplink u { x with
             rxError := satInc x.rxError, rxErrors := 16, link := .errored, cause := .receiveErrors
             erroredSince := some s.tick, tx := none, txLost := if x.tx.isSome then satInc x.txLost else x.txLost })
           exec (.uplinkFrameReceive u f fcsOk sub) s = .next (r.setUplink u { r.uplink u with rxErrors := 0 }))
       ∧ (∀ since, x.link = .errored → x.autoRestart = true → x.cause = .receiveErrors → f.good fcsOk = true →
           x.erroredSince = some since →
           let r := post .uplinkUp (some u.val) (s.tick - since) (q.setUplink u { x with link := .up, cause := .none })
           exec (.uplinkFrameReceive u f fcsOk sub) s = .next (serveAll (r.setUplink u { x with
             link := .up, cause := .none, erroredSince := none, rxErrors := 0, rxCount := satInc x.rxCount
             delivered := x.delivered ++ [{ frame := f, arrival := q.clock }] })))
       ∧ (x.link = .stopped ∨ (x.link = .errored ∧ ¬ (x.autoRestart = true ∧ x.cause = .receiveErrors ∧ f.good fcsOk = true)) →
           exec (.uplinkFrameReceive u f fcsOk sub) s = .next q))
    ∧ (∀ (u : UplinkId) (s : State), s.rstLow = false → let x := s.uplink u
       (x.carrier = true → x.link = .up →
           let r := post .uplinkDown (some u.val) 1 (s.setUplink u { x with
             carrier := false, link := .errored, cause := .carrierLoss, erroredSince := some s.tick, tx := none
             txLost := if x.tx.isSome then satInc x.txLost else x.txLost })
           exec (.carrierLoss u) s = .next (r.setUplink u { r.uplink u with rxErrors := 0 }))
         ∧ (x.carrier = true → x.link = .errored →
             exec (.carrierLoss u) s = .next (s.setUplink u { x with carrier := false, cause := .carrierLoss }))
         ∧ (x.carrier = true → x.link = .stopped → exec (.carrierLoss u) s = .next (s.setUplink u { x with carrier := false }))
         ∧ (∀ since, x.carrier = false → x.link = .errored → x.autoRestart = true → x.cause = .carrierLoss →
             x.erroredSince = some since →
             let r := post .uplinkUp (some u.val) (s.tick - since)
               (s.setUplink u { x with carrier := true, link := .up, cause := .none })
             exec (.carrierReturn u) s = .next (serveAll (r.setUplink u { x with
               carrier := true, link := .up, cause := .none, erroredSince := none })))
         ∧ (x.carrier = false → ¬ (x.link = .errored ∧ x.autoRestart = true ∧ x.cause = .carrierLoss) →
             exec (.carrierReturn u) s = .next (s.setUplink u { x with carrier := true }))
         ∧ (x.carrier = false → exec (.carrierLoss u) s = .next s) ∧ (x.carrier = true → exec (.carrierReturn u) s = .next s))

/-- A grant hands the oldest frame of the head tunnel to the first free member; the tunnel rejoins the tail while frames remain, and the
pointer names the member (R103). A tunnel waiting with dormancy due enters Dormant at the grant of its last frame, in KEYED and UNKEYED
(R141). Without a free member or a waiting tunnel nothing is granted. The first member that can serve is the first after the one the
pointer names, taken cyclically, or, where it names none, the first from the start uplink, the lowest of the group (R103). Uplink 0
starts a group, and any other uplink starts one or belongs to the group of the uplink before it (R101). A frame that joins an empty
egress queue puts its tunnel at the tail of its group's list (R102); a flush empties the queue and takes the tunnel off the list
(R100). The grants of an event are such grants, one after another, until no group has both a free member and a waiting tunnel; they
change tunnels, lists, uplinks and pointers alone (R103), and what settles an event at a tunnel adds its entry into Dormant, where
R141 gives it, and nothing else. That an event offered where it cannot occur changes nothing is the model's choice (log entry 9), and
so is that an event's grants and entry are made in its step (log entry 8). -/
def Obligations.GroupsAndGrants : Prop :=
  (∀ (g u : UplinkId) (t : TunnelId) (tail : List TunnelId) (f : CarrierFrame) (left : List CarrierFrame) (s : State),
     s.rstLow = false →
     let x := { s.tun t with egress := left }
     let enters := left = [] ∧ x.dormancyDue = true ∧ (x.keyState = .keyed ∨ x.keyState = .unkeyed)
     (s.list g = t :: tail → (s.roundRobin g).find? s.isFree = some u → (s.tun t).egress = f :: left →
         exec (.grant g) s = .next
           ((((s.setTun t (if enters then x.enterDormant (s.retained t) else x)).setList g
             (if left = [] then tail else tail ++ [t])).setUplink u { s.uplink u with tx := some f }).point g u))
       ∧ (s.list g = [] ∨ (∀ v ∈ s.members g, s.isFree v = false) → exec (.grant g) s = .next s)
       ∧ exec (.grant g) s = .next (grantOne g s))
    ∧ (∀ (g u : UplinkId) (s : State) (can : UplinkId → Bool),
       let turn := fun v : UplinkId => match s.pointers[g] with
         | none => v.val
         | some p => if p < v then v.val else v.val + 4
       (u ∈ s.members g ↔ groupStart s.groupFlags u = g) ∧ (u ∈ s.members g → g ≤ u)
         ∧ (s.isFree u = true ↔ (s.uplink u).link = .up ∧ (s.uplink u).tx = none)
         ∧ ((s.roundRobin g).find? can = some u ↔
             u ∈ s.members g ∧ can u = true ∧ ∀ v ∈ s.members g, can v = true → turn u ≤ turn v))
    ∧ ((∀ fl : GroupFlags, groupStart fl 0 = 0 ∧ groupStart fl 1 = (if fl.u1 then groupStart fl 0 else 1)
         ∧ groupStart fl 2 = (if fl.u2 then groupStart fl 1 else 2) ∧ groupStart fl 3 = (if fl.u3 then groupStart fl 2 else 3))
       ∧ ∀ (t : TunnelId) (f : CarrierFrame) (s : State), let x := s.tun t
           let g := x.cfg.activeGroup
           let q := s.setTun t { x with egress := x.egress ++ [f] }
           enqueue t f s = (if x.egress = [] then q.setList g (s.list g ++ [t]) else q)
             ∧ flush t s = (s.setTun t { x with egress := [] }).setList g ((s.list g).filter fun u => decide (u ≠ t))
             ∧ (s.WaitingOk → (enqueue t f s).WaitingOk ∧ (flush t s).WaitingOk ∧ ∀ g, t ∉ (flush t s).list g))
    ∧ ∀ (t : TunnelId) (s : State), let r := serveAll s
        let x := r.tun t
        let enters := x.dormancyDue = true ∧ x.egress = [] ∧ (x.keyState = .keyed ∨ x.keyState = .unkeyed)
        (∃ gs : List UplinkId, r = gs.foldl (fun q g => grantOne g q) s)
          ∧ { r with tunnels := s.tunnels, waiting := s.waiting, uplinks := s.uplinks, pointers := s.pointers } = s
          ∧ settle t s = (if enters then r.setTun t (x.enterDormant (r.retained t)) else r)
          ∧ (s.WaitingOk → r.WaitingOk ∧ (settle t s).WaitingOk ∧ ∀ g : UplinkId,
              (r.list g = [] ∨ ∀ u ∈ r.members g, r.isFree u = false)
                ∧ ((settle t s).list g = [] ∨ ∀ u ∈ (settle t s).members g, (settle t s).isFree u = false))

/-- A completed transmission frees its slot and is counted, and grants follow (R104, R103); a group without an Up member and with a
discarding one gives up the head tunnel's oldest frame, counted for the first discarding member in the order of the grants, which the
pointer then names; and a group without a member that is Errored with DiscardOnError set holds its frames (R105). A tunnel waiting
with dormancy due enters Dormant at the discard of its last frame, in KEYED and UNKEYED (R141). That an event offered where it cannot
occur changes nothing is the model's choice (log entry 9). -/
def Obligations.TransmissionEndsAndGroupDiscards : Prop :=
  (∀ (u : UplinkId) (s : State), s.rstLow = false →
      (∀ f, (s.uplink u).tx = some f → exec (.uplinkTxComplete u) s
          = .next (serveAll (s.setUplink u { s.uplink u with tx := none, txCount := satInc (s.uplink u).txCount })))
        ∧ ((s.uplink u).tx = none → exec (.uplinkTxComplete u) s = .next s))
    ∧ ∀ (g u : UplinkId) (t : TunnelId) (tail : List TunnelId) (f : CarrierFrame) (left : List CarrierFrame) (s : State),
        s.rstLow = false →
        let x := { s.tun t with egress := left }
        let enters := left = [] ∧ x.dormancyDue = true ∧ (x.keyState = .keyed ∨ x.keyState = .unkeyed)
        let turn := fun v : UplinkId => match s.pointers[g] with
          | none => v.val
          | some p => if p < v then v.val else v.val + 4
        ((∀ v ∈ s.members g, (s.uplink v).link ≠ .up) → s.list g = t :: tail →
            (s.roundRobin g).find? s.isDiscarding = some u → (s.tun t).egress = f :: left →
            exec (.groupDiscard g) s = .next
              ((((s.setTun t (if enters then x.enterDormant (s.retained t) else x)).setList g
                (if left = [] then tail else tail ++ [t])).setUplink u
                  { s.uplink u with discards := satInc (s.uplink u).discards }).point g u))
          ∧ ((∃ v ∈ s.members g, (s.uplink v).link = .up) ∨ s.list g = [] → exec (.groupDiscard g) s = .next s)
          ∧ ((∀ v ∈ s.members g, (s.uplink v).link ≠ .errored ∨ (s.uplink v).discardOnError = false) →
              exec (.groupDiscard g) s = .next s)
          ∧ (s.isDiscarding u = true ↔ (s.uplink u).link = .errored ∧ (s.uplink u).discardOnError = true)
          ∧ ((s.roundRobin g).find? s.isDiscarding = some u ↔
              u ∈ s.members g ∧ s.isDiscarding u = true ∧ ∀ v ∈ s.members g, s.isDiscarding v = true → turn u ≤ turn v)

/-! ### INBOUND_TUNNEL_FRAME -/

/-- A delivered frame that is no tunnel frame, is malformed, is for an inactive tunnel, names a generation that the tunnel does not
hold, fails its tag, or carries a number already seen or below its window, is dropped and counted as R40 to R44 say, and changes
nothing else but the records of R43 and R44. A frame names a tunnel exactly when it has a whole header and none of the conditions of
R41 holds. Generation 0 matches under the installed epoch, and another generation the current or the previous one of its number
(R42). Ciphertext stands as what was enciphered, the model's reading of section 3.2 (log entry 3). So is the list of delivered frames
(log entry 5). -/
def Obligations.InboundFrameIsDropped : Prop :=
  (∀ (u : UplinkId) (d : Delivered) (rest : List Delivered) (s : State), s.rstLow = false → (s.uplink u).delivered = d :: rest →
     let q := s.setUplink u { s.uplink u with delivered := rest }
     (d.frame.etherType ≠ 0x88B6 →
         exec (.inboundTunnelFrame u) s
           = .next { q with counters := { s.counters with clearInbound := satInc s.counters.clearInbound } })
       ∧ (d.frame.etherType = 0x88B6 → wellFormedHeader d.frame = none →
           exec (.inboundTunnelFrame u) s
             = .next { q with counters := { s.counters with malformed := satInc s.counters.malformed } })
       ∧ ∀ h t, d.frame.etherType = 0x88B6 → wellFormedHeader d.frame = some (h, t) →
         let x := s.tun t
         (x.cfg.enabled = false ∨ x.keyState = .noSecret →
             exec (.inboundTunnelFrame u) s
               = .next { q with counters := { s.counters with inactiveTunnel := satInc s.counters.inactiveTunnel } })
           ∧ (x.cfg.enabled = true → x.keyState ≠ .noSecret → x.matching h = none →
               exec (.inboundTunnelFrame u) s
                 = .next (q.setTun t { x with counters := { x.counters with unknownGen := satInc x.counters.unknownGen } }))
           ∧ ∀ m k, x.cfg.enabled = true → x.keyState ≠ .noSecret → x.matching h = some (m, k) →
             (k.opens h d.frame = none →
                 exec (.inboundTunnelFrame u) s = .next (post .tagFail (some t.val) h.sequence
                   (q.setTun t { x with counters := { x.counters with tagFail := satInc x.counters.tagFail } })))
               ∧ (k.opens h d.frame ≠ none → k.window.judge h.sequence.toNat = .replay →
                   exec (.inboundTunnelFrame u) s = .next (post .replay (some t.val) h.sequence
                     (q.setTun t { x with counters := { x.counters with replay := satInc x.counters.replay } })))
               ∧ (k.opens h d.frame ≠ none → k.window.judge h.sequence.toNat = .tooOld →
                   exec (.inboundTunnelFrame u) s
                     = .next (q.setTun t { x with counters := { x.counters with tooOld := satInc x.counters.tooOld } })))
    ∧ (∀ (f : CarrierFrame) (h : TunnelHeader), TunnelHeader.ofBytes f.head = some h →
       ((∃ t, wellFormedHeader f = some (h, t)) ↔
         h.version = 1 ∧ (h.kind = 1 ∨ h.kind = 2 ∨ h.kind = 3 ∨ h.kind = 5 ∨ h.kind = 6) ∧ h.tunnel.toNat ≤ 1023
           ∧ h.sequence ≠ 0 ∧ (h.generation = 0 → h.kind = 5 ∨ h.kind = 6) ∧ (h.generation ≠ 0 → h.epoch = 0)
           ∧ (h.kind = 1 → 14 ≤ h.length.toNat ∧ h.length.toNat ≤ 1514)
           ∧ (h.kind = 2 ∨ h.kind = 3 → h.length.toNat = 4) ∧ (h.kind = 5 → h.length.toNat = 34)
           ∧ (h.kind = 6 → h.length.toNat = 2) ∧ h.length.toNat + 16 ≤ f.tail)
         ∧ ∀ g t, wellFormedHeader f = some (g, t) → g = h ∧ t.val = h.tunnel.toNat)
    ∧ (∀ f : CarrierFrame, f.head.length ≠ 12 → wellFormedHeader f = none)
    ∧ ∀ (x : Tunnel) (h : TunnelHeader) (m : Match) (k : KeyContext), x.matching h = some (m, k) ↔
       (m = .gen0 ∧ h.generation = 0 ∧ ∃ g, x.gen0 = some g ∧ g.epoch = h.epoch ∧ k = g.ctx)
         ∨ (m = .current ∧ h.generation ≠ 0 ∧ ∃ c, x.cur = some c ∧ c.number = h.generation ∧ k = c.ctx)
         ∨ (m = .previous ∧ h.generation ≠ 0 ∧ (∀ c, x.cur = some c → c.number ≠ h.generation)
             ∧ ∃ p, x.prev = some p ∧ p.number = h.generation ∧ k = p.ctx)

/-- A valid frame of an awake tunnel: its number is marked in the window, a frame under the current generation retires the previous
one, and it goes where its kind sends it: DATA to the office transmit queue, a PROBE is answered by an ECHO of its body, which is
forgotten without a usable generation or a free slot (R38, R47), an ECHO goes to the Health Monitor, an ACCEPT or ASK under generation
0 to the Renewal Controller, and one under another generation is counted as stale (R44 to R50, R140). A valid frame of a dormant
tunnel first wakes it, between the window and the retirement (R45, R144). A wake clears dormant; with kept keys it sets
renew-before-dormancy and seeds health with a probe due now, in UNKEYED it starts initial keying whatever the hold-off, otherwise
nothing further; and a Closed tunnel's dormancy timer runs anew (R145). Ciphertext stands as what was enciphered, the model's reading
of section 3.2 (log entry 3). So is the list of delivered frames (log entry 5). -/
def Obligations.ValidFrameIsDispatched : Prop :=
  (∀ (u : UplinkId) (d : Delivered) (rest : List Delivered) (s : State) (t : TunnelId) (h : TunnelHeader) (m : Match)
     (k : KeyContext) (body : List Byte), s.rstLow = false → (s.uplink u).delivered = d :: rest → ValidAt s d t h m k body →
     (s.tun t).dormant = false → h.kind = kindData →
     let q := s.setUplink u { s.uplink u with delivered := rest }
     let x := (s.tun t).setWindow m (k.window.accepted h.sequence.toNat)
     let y := { x with
       prev := if m = .current then none else x.prev
       grace := if m = .current ∧ x.prev ≠ none then none else x.grace
       counters := { x.counters with framesIn := satInc x.counters.framesIn } }
     exec (.inboundTunnelFrame u) s = .next (settle t (dataActivity t (offerClear { bytes := body } (q.setTun t y)))))
    ∧ (∀ (u : UplinkId) (d : Delivered) (rest : List Delivered) (s : State) (t : TunnelId) (h : TunnelHeader) (m : Match)
       (k : KeyContext) (body : List Byte), s.rstLow = false → (s.uplink u).delivered = d :: rest → ValidAt s d t h m k body →
       (s.tun t).dormant = false →
       let x := (s.tun t).setWindow m (k.window.accepted h.sequence.toNat)
       let y := { x with
         prev := if m = .current then none else x.prev
         grace := if m = .current ∧ x.prev ≠ none then none else x.grace }
       let q := (s.setUplink u { s.uplink u with delivered := rest }).setTun t y
       (h.kind = kindProbe →
           exec (.inboundTunnelFrame u) s = .next (settle t ((sendCurrent t kindEcho body q).getD q)))
         ∧ (h.kind = kindEcho → exec (.inboundTunnelFrame u) s = .next (settle t (takeEcho t (byteAt body 0) d.arrival q)))
         ∧ (h.kind = kindAccept → m = .gen0 →
             exec (.inboundTunnelFrame u) s
               = .next (settle t (takeAccept t (byteAt body 0) (acceptNonce body) (acceptShopNonce body) q)))
         ∧ (h.kind = kindAsk → m = .gen0 → exec (.inboundTunnelFrame u) s = .next (settle t (takeAsk t q)))
         ∧ (h.kind = kindAccept ∨ h.kind = kindAsk → m ≠ .gen0 →
             exec (.inboundTunnelFrame u) s = .next (settle t
               (q.setTun t { y with counters := { y.counters with staleControl := satInc y.counters.staleControl } }))))
    ∧ (∀ (u : UplinkId) (d : Delivered) (rest : List Delivered) (s : State) (t : TunnelId) (h : TunnelHeader) (m : Match)
       (k : KeyContext) (body : List Byte), s.rstLow = false → (s.uplink u).delivered = d :: rest → ValidAt s d t h m k body →
       (s.tun t).dormant = true →
       let q := s.setUplink u { s.uplink u with delivered := rest }
       let w := wake t (q.setTun t ((s.tun t).setWindow m (k.window.accepted h.sequence.toNat)))
       exec (.inboundTunnelFrame u) s = .next (settle t (dispatch t h m body d.arrival (w.setTun t ((w.tun t).retirePrevious m))))
         ∧ (w.tun t).dormant = false)
    ∧ (∀ (t : TunnelId) (h : TunnelHeader) (m : Match) (body : List Byte) (arrival : BitVec 32) (s : State), let x := s.tun t
       let counted := fun c : TunnelCounters => s.setTun t { x with counters := c }
       dispatch t h m body arrival s = (if h.kind = kindData then
           dataActivity t (offerClear { bytes := body } (counted { x.counters with framesIn := satInc x.counters.framesIn }))
         else if h.kind = kindProbe then (sendCurrent t kindEcho body s).getD s
         else if h.kind = kindEcho then takeEcho t (byteAt body 0) arrival s
         else if m ≠ .gen0 then counted { x.counters with staleControl := satInc x.counters.staleControl }
         else if h.kind = kindAccept then takeAccept t (byteAt body 0) (acceptNonce body) (acceptShopNonce body) s
         else takeAsk t s)
       ∧ acceptNonce body = BitVec.ofNat 128 (beNatAt body 2 16) ∧ acceptShopNonce body = BitVec.ofNat 128 (beNatAt body 18 16)
       ∧ x.retirePrevious m = (if m = .current ∧ x.prev ≠ none then { x with prev := none, grace := none } else x)
       ∧ dataActivity t s = (if x.shop = .closed then s.setTun t { x with
           dormancyExpiry := some (s.after ((s.prof t).dormancyTimeout * 100)), dormancyDue := false } else s)
       ∧ (x.cur = none → sendCurrent t kindEcho body s = none)
       ∧ ∀ c, x.cur = some c →
           (c.lastSeq + 1 ≤ (s.prof t).frameLimit → 0 < s.freeSlots → sendCurrent t kindEcho body s
               = some (enqueue t (currentFrame s t c kindEcho body)
                   (s.setTun t { x with cur := some { c with lastSeq := c.lastSeq + 1 } })))
             ∧ ((s.prof t).frameLimit < c.lastSeq + 1 ∨ s.freeSlots = 0 → sendCurrent t kindEcho body s = none))
    ∧ ∀ (t : TunnelId) (s : State), let x := s.tun t
       let rest := fun y : Tunnel => { y with
         dormancyExpiry := if x.shop = .closed then some (s.after ((s.prof t).dormancyTimeout * 100)) else y.dormancyExpiry
         dormancyDue := if x.shop = .closed then false else y.dormancyDue }
       (x.dormant = false → wake t s = s)
         ∧ (x.dormant = true → x.cur ≠ none → wake t s = s.setTun t (rest { x with
             dormant := false, renewBefore := true
             health := { x.health with
               state := .seeding, seeds := [], snapshot := none, miss := 0, suspect := 0, settle := 0, comp := 0
               expiry := some s.tick } }))
         ∧ (x.dormant = true → x.cur = none → x.cfg.enabled = true → x.keyState = .unkeyed →
             let r := attempt t 1 (s.setTun t { x with dormant := false, holdoff := none, attempts := 0, keyState := .offering 1 })
             wake t s = r.setTun t (rest (r.tun t)))
         ∧ (x.dormant = true → x.cur = none → x.keyState ≠ .unkeyed → wake t s = s.setTun t (rest { x with dormant := false }))

/-! ### Keying -/

/-- An attempt: a fresh nonce is drawn and held until the response allowance runs out, the attempt count rises, and an OFFER under
generation 0 with the next number joins the egress queue, or is not sent for want of a slot (R64). The OFFER that takes the last
number of generation 0 ends the tunnel's keying with its record (R36). The nonce is the model's free value, numbered by its own count
of draws (log entry 2). -/
def Obligations.AttemptMakesAnOffer : Prop :=
  ∀ (t : TunnelId) (target : BitVec 8) (g : Gen0) (s : State), (s.tun t).gen0 = some g →
    let x := s.tun t
    let nonce := Config.drawnNonce s.draws
    let q : State := { s with draws := s.draws + 1 }
    let held := { x with
      attempts := x.attempts + 1, nonce := some { value := nonce, expiry := s.after (s.prof t).response } }
    (g.lastSeq + 1 < 4294967295 → 0 < s.freeSlots →
        let y := { held with
          gen0 := some { g with lastSeq := g.lastSeq + 1 }, egress := x.egress ++ [offerFrame s t g target nonce] }
        attempt t target s = if x.egress = [] then
          (q.setTun t y).setList x.cfg.activeGroup (s.list x.cfg.activeGroup ++ [t]) else q.setTun t y)
      ∧ (g.lastSeq + 1 < 4294967295 → s.freeSlots = 0 → attempt t target s = q.setTun t held)
      ∧ (g.lastSeq + 1 = 4294967295 → 0 < s.freeSlots →
          ∃ r : State, attempt t target s = post .secretExhausted (some t.val) 4294967295 r
            ∧ r.tun t = { x with
                secret := none, gen0 := none, cur := none, prev := none, keyState := .noSecret, nonce := none, attempts := 0
                holdoff := none, jitter := none, grace := none, rate := 0, sample := 0, egress := []
                health := { Health.reset with probe := x.health.probe } }
            ∧ (∀ t', t' ≠ t → r.tun t' = s.tun t') ∧ (∀ e ∈ r.kduQueue, e.tunnel ≠ t)
            ∧ { r with tunnels := s.tunnels, waiting := s.waiting, kduQueue := s.kduQueue, kduFlight := s.kduFlight } = q)

/-- An ACCEPT that answers the exchange in progress queues its derivation and moves the tunnel to DERIVING; any other is counted as
stale and has no other effect (R68). An ASK starts a renewal, or initial keying, or nothing, by the keying state (R65, R66, R71). -/
def Obligations.RenewalControllerTakesControl : Prop :=
  ∀ (t : TunnelId) (s : State), let x := s.tun t
    (∀ target shopNonce (o : OfferNonce), x.keyState = .offering target → x.nonce = some o →
        takeAccept t target o.value shopNonce s
          = ({ s with kduQueue := s.kduQueue ++ [{ tunnel := t, kind := .generation target o.value shopNonce }] } : State).setTun t
              { x with nonce := none, attempts := 0, keyState := .deriv target })
      ∧ (∀ target nonce shopNonce, ¬ (x.keyState = .offering target ∧ ∃ o, x.nonce = some o ∧ o.value = nonce) →
          takeAccept t target nonce shopNonce s
            = s.setTun t { x with counters := { x.counters with staleControl := satInc x.counters.staleControl } })
      ∧ (∀ c, (x.keyState = .keyed ∨ x.keyState = .pending ∨ x.keyState = .held) → x.cur = some c →
          let target := if c.number = 255 then 1 else c.number + 1
          takeAsk t s = attempt t target
            (s.setTun t { x with jitter := none, holdoff := none, attempts := 0, keyState := .offering target }))
      ∧ (x.keyState = .unkeyed → x.cfg.enabled = true →
          takeAsk t s = attempt t 1 (s.setTun t { x with holdoff := none, attempts := 0, keyState := .offering 1 }))
      ∧ ((∃ g, x.keyState = .offering g ∨ x.keyState = .deriv g) → takeAsk t s = s)

/-- The idle unit starts the derivation at the head of its queue, with the secret and epoch as they stand (R60); a busy unit, or one
with an empty queue, starts nothing. A completed derivation frees the unit, which starts the next entry. One that belongs to no tunnel
is discarded; a bootstrap gives its tunnel generation 0 and, when the tunnel is enabled and not dormant, its first attempt; a
generation makes the switch of its DERIVING tunnel (R58, R60, R61, R75). Key and salt are the model's free values (log entry 1), the
clock of a completion inside its tick is the model's choice (log entry 6), and so is that the next derivation starts in the same step
(log entry 8). That an event offered where it cannot occur changes nothing is the model's choice (log entry 9). -/
def Obligations.DerivationStartsAndCompletes : Prop :=
  (∀ s : State, s.rstLow = false →
     (∀ e rest m, s.kduFlight = none → s.kduQueue = e :: rest → (s.tun e.tunnel).secret = some m →
         exec .derivationStart s = .next { s with
           kduQueue := rest
           kduFlight := some {
             owner := some e.tunnel, kind := e.kind
             inputs := match e.kind with
               | .bootstrap =>
                 { secret := m.secret, epoch := m.epoch, tunnel := e.tunnel, target := 0, bridgeNonce := 0, shopNonce := 0 }
               | .generation g b n =>
                 { secret := m.secret, epoch := m.epoch, tunnel := e.tunnel, target := g, bridgeNonce := b, shopNonce := n } } })
       ∧ (s.kduFlight.isSome ∨ s.kduQueue = [] → exec .derivationStart s = .next s)
       ∧ exec .derivationStart s = .next (startDerivation s)
       ∧ (s.kduFlight = none → ∀ sub, exec (.derivationComplete sub) s = .next s))
    ∧ (∀ (sub : Fin 100) (d : KduFlight) (s : State), s.rstLow = false → s.kduFlight = some d →
       let q : State := { s.clockAt sub with kduFlight := none }
       let ctx : KeyContext :=
         { key := Config.derivedKey d.inputs, salt := Config.derivedSalt d.inputs, window := { high := 0, seen := [] } }
       (d.owner = none → exec (.derivationComplete sub) s = .next (startDerivation q))
         ∧ (∀ t, d.owner = some t → d.kind = .bootstrap → (s.tun t).keyState = .bootstrap →
             let y := { s.tun t with gen0 := some { epoch := d.inputs.epoch, ctx := ctx, lastSeq := 0 }, keyState := .unkeyed }
             exec (.derivationComplete sub) s = .next (settle t (startDerivation
               (if y.cfg.enabled = true ∧ y.dormant = false then
                 attempt t 1 (q.setTun t { y with holdoff := none, attempts := 0, keyState := .offering 1 })
               else q.setTun t y))))
         ∧ ∀ t target b n, d.owner = some t → d.kind = .generation target b n → (s.tun t).keyState = .deriv target →
             exec (.derivationComplete sub) s = .next (settle t (startDerivation (switchGeneration t target d.inputs q))))

/-- The switch: a previous generation still present is discarded with GEN_UNCONFIRMED, the current one becomes previous, the derived
one becomes current with fresh counting state, grace is armed, and the tunnel is KEYED (R75, R76). Then the switch probe is attempted
(R114). In a live group with a free slot it is a PROBE under the new generation with its first number, it becomes the outstanding
probe, and one outstanding before is abandoned without a miss; in a group without an Up member, or without a slot, nothing is sent.
In every case the probe schedule restarts from the switch (R112, R114), and a tunnel that held no generation enters Seeding (R111).
Key and salt are the model's free values (log entry 1), the departure of the probe is on the model's clock (log entry 6), and the
tick of the next age step is its own field (log entry 13). -/
def Obligations.SwitchInstallsTheGeneration : Prop :=
  ∀ (t : TunnelId) (target : BitVec 8) (i : KdfInputs) (s : State),
    let x := s.tun t
    let p := match x.prev with
      | some old => post .genUnconfirmed (some t.val) (old.number.setWidth 32) s
      | none => s
    let new : CurGen := {
      number := target, lastSeq := 0, age := 0, nextAge := s.after 100
      ctx := { key := Config.derivedKey i, salt := Config.derivedSalt i, window := { high := 0, seen := [] } } }
    let y := { x with
      prev := x.cur.map fun c => { number := c.number, ctx := c.ctx }
      cur := some new
      grace := if x.cur = none then none else some (s.after (s.prof t).grace)
      keyState := .keyed
      renewBefore := false
      health := if x.cur = none then { x.health with
        state := .seeding, seeds := [], snapshot := none, miss := 0, suspect := 0, settle := 0, comp := 0 } else x.health }
    let expiry := some (s.after (if x.shop = .closed then (s.prof t).probeClosed else (s.prof t).probeOpen))
    switchKeys t target i s = p.setTun t y
      ∧ (let r := attemptProbe t true (p.setTun t y)
        switchGeneration t target i s = r.setTun t { r.tun t with health := { (r.tun t).health with expiry := expiry } })
      ∧ ((∀ v ∈ s.members x.cfg.activeGroup, (s.uplink v).link ≠ .up) ∨ p.freeSlots = 0 →
          switchGeneration t target i s = p.setTun t { y with health := { y.health with expiry := expiry } })
      ∧ ∀ v ∈ s.members x.cfg.activeGroup, (s.uplink v).link = .up → 0 < p.freeSlots → 1 ≤ (s.prof t).frameLimit →
          let number := x.health.probe + 1
          let z := { y with
            cur := some { new with lastSeq := 1 }
            egress := x.egress ++ [currentFrame s t new kindProbe [number, 0, 0, 0]]
            health := { y.health with
              probe := number, outstanding := some { number := number, departure := s.clock }, expiry := expiry } }
          switchGeneration t target i s = if x.egress = [] then
            (p.setTun t z).setList x.cfg.activeGroup (s.list x.cfg.activeGroup ++ [t]) else p.setTun t z

/-- The response allowance runs out: a further attempt while the retry limit allows it, otherwise the exchange fails with RENEW_FAIL
and arms the hold-off (R67). The expiry of the hold-off makes it absent and starts nothing (R70). Before its tick neither is taken
(R81); that an expiry is taken once the tick counter has reached it, at that tick or later, is the model's choice (log entry 10). That
an event offered where it cannot occur changes nothing is the model's choice (log entry 9). -/
def Obligations.ResponseAndHoldoffExpire : Prop :=
  ∀ (t : TunnelId) (s : State), s.rstLow = false → let x := s.tun t
    (∀ target o, x.keyState = .offering target → x.nonce = some o → s.reached (some o.expiry) = true →
        x.attempts < 1 + (s.prof t).retryLimit →
        exec (.responseExpiry t) s = .next (settle t (attempt t target s)))
      ∧ (∀ target o, x.keyState = .offering target → x.nonce = some o → s.reached (some o.expiry) = true →
          1 + (s.prof t).retryLimit ≤ x.attempts →
          let y := { x with
            nonce := none, attempts := 0, holdoff := some (s.after (s.prof t).retryHoldoff)
            keyState := if x.cur = none then .unkeyed else .keyed }
          exec (.responseExpiry t) s = .next (settle t
            ((post .renewFail (some t.val) (target.setWidth 32) (s.setTun t { y with keyState := x.keyState })).setTun t y)))
      ∧ (∀ e, x.holdoff = some e → s.reached (some e) = true →
          exec (.retryHoldoffExpiry t) s = .next (s.setTun t { x with holdoff := none }))
      ∧ (∀ o, x.nonce = some o → s.reached (some o.expiry) = false → exec (.responseExpiry t) s = .next s)
      ∧ (∀ e, x.holdoff = some e → s.reached (some e) = false → exec (.retryHoldoffExpiry t) s = .next s)
      ∧ (x.nonce = none ∨ (∀ target, x.keyState ≠ .offering target) → exec (.responseExpiry t) s = .next s)
      ∧ (x.holdoff = none → exec (.retryHoldoffExpiry t) s = .next s)

/-- The jitter delay of a PENDING tunnel runs out: HELD when its health is Faulted(Silent), else the renewal for the generation after
the current one starts (R66, R73). The grace of an unconfirmed previous generation runs out: it is discarded with its record (R77).
The age rises by a second, up to 65535 (R34); the tick at which it next does is a field of the model's own (log entry 13). Before its
tick none of them is taken (R81); that an expiry is taken once the tick counter has reached it, at that tick or later, is the model's
choice (log entry 10). That an event offered where it cannot occur changes nothing is the model's choice (log entry 9). -/
def Obligations.JitterGraceAndAgeExpire : Prop :=
  ∀ (t : TunnelId) (s : State), s.rstLow = false → let x := s.tun t
    (∀ e, x.keyState = .pending → x.jitter = some e → s.reached (some e) = true → x.health.state = .faultedSilent →
        exec (.jitterDelayExpiry t) s = .next (s.setTun t { x with jitter := none, keyState := .held }))
      ∧ (∀ e c, x.keyState = .pending → x.jitter = some e → s.reached (some e) = true → x.health.state ≠ .faultedSilent →
          x.cur = some c → let target := if c.number = 255 then 1 else c.number + 1
          exec (.jitterDelayExpiry t) s = .next (settle t (attempt t target
            (s.setTun t { x with jitter := none, holdoff := none, attempts := 0, keyState := .offering target }))))
      ∧ (∀ e p, x.prev = some p → x.grace = some e → s.reached (some e) = true →
          exec (.graceExpiry t) s = .next (post .genUnconfirmed (some t.val) (p.number.setWidth 32)
            (s.setTun t { x with prev := none, grace := none })))
      ∧ (∀ c, x.cur = some c → s.reached (some c.nextAge) = true →
          exec (.ageIncrement t) s
            = .next (s.setTun t { x with cur := some { c with age := min (c.age + 1) 65535, nextAge := c.nextAge + 100 } }))
      ∧ (∀ e, x.jitter = some e → s.reached (some e) = false → exec (.jitterDelayExpiry t) s = .next s)
      ∧ (∀ e, x.grace = some e → s.reached (some e) = false → exec (.graceExpiry t) s = .next s)
      ∧ (∀ c, x.cur = some c → s.reached (some c.nextAge) = false → exec (.ageIncrement t) s = .next s)
      ∧ (x.keyState ≠ .pending ∨ x.jitter = none → exec (.jitterDelayExpiry t) s = .next s)
      ∧ (x.prev = none ∨ x.grace = none → exec (.graceExpiry t) s = .next s)
      ∧ (x.cur = none → exec (.ageIncrement t) s = .next s)

/-! ### Time, rate intervals, probes and dormancy -/

/-- The tick counter and the phase count advance, wrapping at 2^32 and after 9, and a rate interval ends when the phase returns to 0
(R81); the measurement clock enters the new tick and never goes back (log entry 6). A rate interval end, at every tunnel: the filter
moves R of an enabled tunnel with a current generation, the sample count becomes 0, and a due tunnel becomes HELD when Faulted(Silent)
and otherwise PENDING with a delay from the generator, which steps once for each such tunnel in ascending order (R83, R88, R91); a
tunnel is tested that is enabled, not dormant and KEYED with no hold-off (R88). Nothing else changes, and nothing at all while no
interval has ended. The flag of an ended interval is the model's own (log entry 13), and that the row changes nothing without it is
its choice (log entry 9). An expiry set to d ticks from now is the counter plus d modulo 2^32 (R81), and the counter has reached an
expiry exactly when the counter less the expiry, modulo 2^32, is below 2^31, which is the model's choice (log entry 10). -/
def Obligations.TicksAndRateIntervals : Prop :=
  (∀ (s : State) (e : Tick) (d : Nat) (part sub : Fin 100), (s.after d).toNat = (s.tick.toNat + d) % 4294967296
     ∧ (s.reached (some e) = true ↔ (s.tick.toNat + 4294967296 - e.toNat) % 4294967296 < 2147483648)
     ∧ (s.clock = s.tick * 100 + BitVec.ofNat 32 part.val →
         s.clockAt sub = { s with clock := s.tick * 100 + BitVec.ofNat 32 (max part.val sub.val) }))
    ∧ (∀ s : State, s.rstLow = false → s.intervalEnd = false → exec .rateIntervalEnd s = .next s)
    ∧ (∀ x : Tunnel, x.dueTestable = true ↔
        x.cfg.enabled = true ∧ x.dormant = false ∧ x.keyState = .keyed ∧ x.holdoff = none)
    ∧ (∀ s : State, s.rstLow = false → ∃ s', exec .tick s = .next s'
     ∧ s'.tick.toNat = (s.tick.toNat + 1) % 4294967296 ∧ s'.phase.val = (s.phase.val + 1) % 10
     ∧ (s'.intervalEnd = true ↔ s.intervalEnd = true ∨ s.phase.val = 9) ∧ s'.clock = s'.tick * 100
     ∧ { s' with tick := s.tick, phase := s.phase, intervalEnd := s.intervalEnd, clock := s.clock } = s)
    ∧ (∀ s : State, s.rstLow = false → s.intervalEnd = true →
       let mid := fun t => (s.tun t).endInterval s.profiles
       let due := fun t => (mid t).dueTestable = true ∧ ∃ c, (s.tun t).cur = some c
         ∧ renewalDue c (s.prof t) (mid t).rate (leadTime s (s.prof t)) = true
       let draws := fun t => due t ∧ (s.tun t).health.state ≠ .faultedSilent
       let state := fun before : Set TunnelId => lfsrRun before.ncard s.lfsr
       ∃ s' : State, exec .rateIntervalEnd s = .next s'
         ∧ (∀ t, (mid t).rate = (if (s.tun t).cfg.enabled = true ∧ (s.tun t).cur ≠ none
             then rateFilter (s.tun t).rate (s.tun t).sample (s.prof t).rateBeta else (s.tun t).rate) ∧ (mid t).sample = 0)
         ∧ (∀ t, ¬ due t → s'.tun t = mid t)
         ∧ (∀ t, due t → (s.tun t).health.state = .faultedSilent → s'.tun t = { mid t with keyState := .held })
         ∧ (∀ t, draws t → s'.tun t = { mid t with
             keyState := .pending
             jitter := some (s.after ((s.jitterBase + (state {r | r ≤ t ∧ draws r}).toNat % s.jitterRange) % 65536)) })
         ∧ { s' with tunnels := s.tunnels, lfsr := s.lfsr, intervalEnd := true } = s ∧ s'.intervalEnd = false
         ∧ s'.lfsr = state {r | draws r})

/-- A probe expiry outside Off: a stale outstanding probe is abandoned, a probe is attempted, and the expiry is set to the probe
interval of the shop state from now, whether or not the probe is sent; with no Up member in the group none is requested, and without a
usable generation or a free slot none is sent (R38, R112, R113, R115). In Off, and before its tick, the expiry is not taken (R81,
R112; log entry 9). A probe attempt in a live group with a usable generation and a free slot: a PROBE with the next probe number joins
the egress queue, an outstanding probe is a miss except for the switch probe, and the new probe is outstanding from the clock's
present value. A miss counts toward M unless the shop is Closed or the tunnel is Faulted(Silent), and the M-th raises SILENT_FAULT
(R116). The clock of the expiry inside its tick, and that a probe departs at the event that requests it, are the model's choices (log
entry 6). That an expiry is taken once the tick counter has reached it, at that tick or later, is the model's choice (log entry 10). -/
def Obligations.ProbeExpiresAndIsSent : Prop :=
  (∀ (t : TunnelId) (sub : Fin 100) (e : Tick) (s : State), s.rstLow = false → (s.tun t).health.state ≠ .off →
     (s.tun t).health.expiry = some e → s.reached (some e) = true →
     let x := s.tun t
     let q := s.clockAt sub
     let h := { x.health with
       outstanding := x.health.outstanding.filter fun o => decide ((q.clock - o.departure).toNat < 2147483648) }
     let next := some (s.after (if x.shop = .closed then (s.prof t).probeClosed else (s.prof t).probeOpen))
     exec (.probeExpiry t sub) s = .next (settle t (armProbe t (attemptProbe t false (q.setTun t { x with health := h }))))
       ∧ ((∀ v ∈ s.members x.cfg.activeGroup, (s.uplink v).link ≠ .up) →
           exec (.probeExpiry t sub) s = .next (settle t (q.setTun t { x with health := { h with expiry := next } }))))
    ∧ (∀ (t : TunnelId) (sub : Fin 100) (s : State), s.rstLow = false → let x := s.tun t
       (∀ e, x.health.expiry = some e → s.reached (some e) = false → exec (.probeExpiry t sub) s = .next s)
         ∧ (x.health.state = .off ∨ x.health.expiry = none → exec (.probeExpiry t sub) s = .next s)
         ∧ (armProbe t s = s.setTun t { x with health := { x.health with
             expiry := some (s.after (if x.shop = .closed then (s.prof t).probeClosed else (s.prof t).probeOpen)) } })
         ∧ ∀ isSwitch, (∀ v ∈ s.members x.cfg.activeGroup, (s.uplink v).link ≠ .up) ∨ x.cur = none
               ∨ (∃ c, x.cur = some c ∧ (s.prof t).frameLimit < c.lastSeq + 1) ∨ s.freeSlots = 0 →
             attemptProbe t isSwitch s = s)
    ∧ ((∀ (t : TunnelId) (isSwitch : Bool) (c : CurGen) (v : UplinkId) (s : State), let x := s.tun t
         v ∈ s.members x.cfg.activeGroup → (s.uplink v).link = .up → x.cur = some c → c.lastSeq + 1 ≤ (s.prof t).frameLimit →
         0 < s.freeSlots →
         let number := x.health.probe + 1
         let q := enqueue t (currentFrame s t c kindProbe [number, 0, 0, 0])
           (s.setTun t { x with cur := some { c with lastSeq := c.lastSeq + 1 } })
         let r := match x.health.outstanding with
           | some o => if isSwitch then q else takeMiss t o.number q
           | none => q
         attemptProbe t isSwitch s = r.setTun t { r.tun t with health := { (r.tun t).health with
           probe := number, outstanding := some { number := number, departure := s.clock } } })
       ∧ ∀ (t : TunnelId) (number : BitVec 8) (s : State), let x := s.tun t
           (x.shop = .closed ∨ x.health.state = .faultedSilent → takeMiss t number s = s)
             ∧ (x.shop ≠ .closed → x.health.state ≠ .faultedSilent → x.health.state ≠ .off →
                 x.health.miss + 1 < (s.prof t).missLimit →
                 takeMiss t number s = s.setTun t { x with health := { x.health with miss := x.health.miss + 1 } })
             ∧ (x.shop ≠ .closed → x.health.state ≠ .faultedSilent → x.health.state ≠ .off →
                 (s.prof t).missLimit ≤ x.health.miss + 1 →
                 takeMiss t number s = post .silentFault (some t.val) (number.setWidth 32)
                   (s.setTun t { x with health := { x.health with
                     miss := x.health.miss + 1, state := .faultedSilent, suspect := 0, settle := 0, seeds := []
                     snapshot := none } })))

/-- Dormancy's expiry: an idle KEYED or UNKEYED tunnel enters Dormant, its generations discarded with its KEYED state when it is not
retained or its renew-before-dormancy is set; any other tunnel waits with dormancy due, and DORMANT_ENTRY takes a waiting tunnel in
once both conditions hold (R32, R141, R142); the entry is the same at every event that brings it. Before its tick the expiry is not
taken (R81); that an expiry is taken once the tick counter has reached it, at that tick or later, is
the model's choice (log entry 10). That an event offered where it cannot occur changes nothing is the model's choice (log entry 9). -/
def Obligations.DormancyEntersTheTunnel : Prop :=
  ∀ (t : TunnelId) (s : State), s.rstLow = false → let x := s.tun t
    let ready := (x.keyState = .keyed ∨ x.keyState = .unkeyed) ∧ x.egress = []
    let retained := s.bankMask.getLsbD (t.val / 128) = false ∧ s.segmentMask.getLsbD (t.val % 128 / 16) = false
    let kept := { x with
      dormant := true, dormancyExpiry := none, dormancyDue := false, health := { Health.reset with probe := x.health.probe } }
    let erased := { kept with
      cur := none, prev := none, nonce := none, attempts := 0, holdoff := none, jitter := none, grace := none
      rate := 0, sample := 0, keyState := .unkeyed }
    let entered := if x.keyState = .keyed ∧ (¬ retained ∨ x.renewBefore = true) then erased else kept
    x.enterDormant (s.retained t) = entered
      ∧ (∀ e, x.dormancyExpiry = some e → s.reached (some e) = false → exec (.dormancyExpiry t) s = .next s)
      ∧ (∀ e, x.dormancyExpiry = some e → s.reached (some e) = true →
        (ready → exec (.dormancyExpiry t) s = .next (s.setTun t entered))
          ∧ (¬ ready → exec (.dormancyExpiry t) s = .next (s.setTun t { x with dormancyExpiry := none, dormancyDue := true })))
      ∧ (x.dormancyExpiry = none → exec (.dormancyExpiry t) s = .next s)
      ∧ (x.dormancyDue = true → ready → exec (.dormantEntry t) s = .next (s.setTun t entered))
      ∧ (x.dormancyDue = false ∨ ¬ ready → exec (.dormantEntry t) s = .next s)

/-- A change of shop state. Into Closed: the probe schedule restarts with the closed interval and the misses are forgotten; a Silent
fault is released with detail 4, into Seeding, and a HELD tunnel starts its renewal; and an enabled tunnel's dormancy timer is armed
(R112, R123, R124, R139, R140). Out of Closed: a dormant tunnel is woken, and the probe schedule restarts with the open interval
(R112, R139, R145). Between other states health is left alone. A change into Closing makes the closing renewal test, which a worn
tunnel meets with a draw and PENDING (R89, R91). A change to a state other than Closed drops the dormancy timer (R139, R140). That a
tunnel woken by the change sends its first probe one open interval later follows the order of R139 against the chapter's example
(log entry 11). -/
def Obligations.ShopStateChanges : Prop :=
  ∀ (t : TunnelId) (s : State), let x := s.tun t
    let p := s.prof t
    let arm := fun y : Tunnel => if x.cfg.enabled = true then { y with
      dormancyExpiry := some (s.after (p.dormancyTimeout * 100)), dormancyDue := false } else y
    let seeding := fun k : Health => { k with
      state := .seeding, seeds := [], snapshot := none, miss := 0, suspect := 0, settle := 0, comp := 0 }
    let worn := fun y : Tunnel => y.cfg.enabled = true ∧ y.dormant = false ∧ y.keyState = .keyed ∧ y.holdoff = none
      ∧ ∃ c, y.cur = some c ∧ (p.frameLimit < 2 * c.lastSeq ∨ p.ageLimit < 2 * c.age)
    let g := lfsrStep s.lfsr
    let jitter := some (s.after ((s.jitterBase + g.toNat % s.jitterRange) % 65536))
    (x.shop ≠ .closed →
        let y := { x with shop := .closed, health := { x.health with expiry := some (s.after p.probeClosed) } }
        let z := { y with health := seeding y.health }
        let r := post .release (some t.val) 4 (s.setTun t y)
        (x.health.state = .off → changeShop t .closed s = s.setTun t (arm { x with shop := .closed }))
          ∧ (x.health.state ≠ .off → x.health.state ≠ .faultedSilent →
              changeShop t .closed s = s.setTun t (arm { y with health := { y.health with miss := 0 } }))
          ∧ (x.health.state = .faultedSilent → x.keyState ≠ .held → changeShop t .closed s = r.setTun t (arm z))
          ∧ ∀ c, x.health.state = .faultedSilent → x.keyState = .held → x.cur = some c →
              let target := if c.number = 255 then 1 else c.number + 1
              let a := attempt t target (r.setTun t { z with
                jitter := none, holdoff := none, attempts := 0, keyState := .offering target })
              changeShop t .closed s = a.setTun t (arm (a.tun t)))
      ∧ (∀ new, x.shop ≠ .closed → new ≠ .closed →
          let y := { x with shop := new, dormancyExpiry := none, dormancyDue := false }
          (¬ (new = .closing ∧ worn x) → changeShop t new s = s.setTun t y)
            ∧ (new = .closing → worn x → changeShop t new s
                = ({ s with lfsr := g } : State).setTun t { y with keyState := .pending, jitter := jitter }))
      ∧ (∀ new, x.shop = .closed → new ≠ .closed →
          let w := wake t (s.setTun t { x with shop := new })
          let u := w.tun t
          let y := { u with
            dormancyExpiry := none, dormancyDue := false
            health := if u.health.state = .off then u.health
              else { u.health with expiry := some (s.after p.probeOpen) } }
          (¬ (new = .closing ∧ worn u) → changeShop t new s = w.setTun t y)
            ∧ (new = .closing → worn u → changeShop t new s
                = ({ w with lfsr := g } : State).setTun t { y with keyState := .pending, jitter := jitter }))
      ∧ (∀ new, x.shop = .closed → new ≠ .closed → new ≠ .closing → x.dormant = true → x.cur ≠ none →
          changeShop t new s = s.setTun t { x with
            shop := new, dormant := false, renewBefore := true, dormancyExpiry := none, dormancyDue := false
            health := { seeding x.health with expiry := some (s.after p.probeOpen) } })

/-- The samples of the Health Monitor. A valid ECHO first releases a Silent fault with detail 3, whatever its number, and a HELD
tunnel starts its renewal (R74, R123); it answers the outstanding probe when it carries its number and health is not Off, and then the
probe is answered, the miss count becomes 0 and the elapsed time, held within 1..65535, is a sample (R115). In Seeding, the last
sample wanted accepts the seed mean within Bmin..Bmax into Normal or rejects it into Unseeded with SEED_ERROR (R119). In Normal and
Suspect, F and A move by their betas, D is F less B as it stood, Dc is D less the compensation, and Dc against the threshold decides:
below it Normal and a baseline step, above it Suspect until the suspect count makes Faulted(Delay) with DELAY_FAULT (R117, R121). A
baseline outside the reseed band makes a RESEED and Seeding, which a Reference defers while a Follower of it is Suspect or Faulted
(R118, R133). In Faulted(Delay), the settling and the snapshot, and a release with detail 1 below the threshold or detail 2 by the
snapshot test (R122). In Off, Unseeded and Faulted(Silent) a sample does nothing (R115, R117). -/
def Obligations.SamplesDecideTheHealth : Prop :=
  ∀ (t : TunnelId) (s : State), let x := s.tun t
    let p := s.prof t
    let h := x.health
    let put := fun k : Health => s.setTun t { x with health := k }
    let seeding := fun k : Health => { k with
      state := .seeding, seeds := [], snapshot := none, miss := 0, suspect := 0, settle := 0, comp := 0 }
    (∀ n : Nat,
      let seeds := h.seeds ++ [n]
      let mean := seeds.sum / seeds.length
      let fast := h.fast + Int.tdiv ((16 * n - h.fast) * p.fastBeta) 256
      let slow := h.slow + Int.tdiv ((16 * n - h.slow) * p.slowBeta) 256
      let comp := fast - h.base - compensation s t
      let base := h.base + Int.tdiv ((16 * n - h.base) * p.baseBeta) 256
      let filtered := { h with fast := fast, slow := slow, dev := fast - h.base, comp := comp }
      let count := if h.state = .normal then 1 else h.suspect + 1
      let normal := { filtered with state := .normal, suspect := 0, base := base }
      let deferred := x.cfg.role = .reference ∧ ∃ f, (s.tun f).cfg.role = .follower ∧ (s.tun f).cfg.reference = t
        ∧ ((s.tun f).health.state = .suspect ∨ (s.tun f).health.state = .faultedDelay
          ∨ (s.tun f).health.state = .faultedSilent)
      let settle := if |fast - slow| ≤ 16 * (p.settleThreshold : Int) then min (h.settle + 1) 255 else 0
      let snapshot := if p.settleSamples ≤ settle ∧ h.snapshot = none then some (fast - h.base) else h.snapshot
      let settled := { filtered with settle := settle, snapshot := snapshot }
      let falling := ∃ v, snapshot = some v ∧ Int.tdiv (v * p.releasePct) 128 < slow - fast
      let released := fun detail : BitVec 32 =>
        (post .release (some t.val) detail (put settled)).setTun t { x with health := seeding settled }
      (h.state = .seeding → h.seeds.length + 1 < p.seedCount → takeSample t n s = put { h with seeds := seeds })
        ∧ (h.state = .seeding → p.seedCount ≤ h.seeds.length + 1 → p.seedMin ≤ mean → mean ≤ p.seedMax →
            takeSample t n s = put { h with
              seeds := [], state := .normal, refSeed := mean, fast := 16 * mean, slow := 16 * mean, base := 16 * mean
              dev := 0, comp := 0 })
        ∧ (h.state = .seeding → p.seedCount ≤ h.seeds.length + 1 → ¬ (p.seedMin ≤ mean ∧ mean ≤ p.seedMax) →
            takeSample t n s
              = post .seedError (some t.val) (BitVec.ofNat 32 mean) (put { h with seeds := [], state := .unseeded }))
        ∧ (h.state = .normal ∨ h.state = .suspect → comp < 16 * p.threshold →
            (|base - 16 * h.refSeed| ≤ 16 * p.reseedBand ∨ deferred → takeSample t n s = put normal)
              ∧ (16 * (p.reseedBand : Int) < |base - 16 * h.refSeed| → ¬ deferred → takeSample t n s
                = (post .reseed (some t.val) (BitVec.ofInt 32 base) (put normal)).setTun t { x with health := seeding normal }))
        ∧ (h.state = .normal ∨ h.state = .suspect → 16 * (p.threshold : Int) ≤ comp → count < p.suspectCount →
            takeSample t n s = put { filtered with state := .suspect, suspect := count })
        ∧ (h.state = .normal ∨ h.state = .suspect → 16 * (p.threshold : Int) ≤ comp → p.suspectCount ≤ count →
            takeSample t n s = post .delayFault (some t.val) (BitVec.ofInt 32 comp)
              (put { filtered with state := .faultedDelay, suspect := 0, settle := 0, snapshot := none }))
        ∧ (h.state = .faultedDelay → comp < 16 * p.threshold → takeSample t n s = released 1)
        ∧ (h.state = .faultedDelay → 16 * (p.threshold : Int) ≤ comp →
            (falling → takeSample t n s = released 2) ∧ (¬ falling → takeSample t n s = put settled))
        ∧ (h.state = .off ∨ h.state = .unseeded ∨ h.state = .faultedSilent → takeSample t n s = s))
      ∧ ∀ (number : BitVec 8) (arrival : BitVec 32),
        (h.state = .off ∨ (h.state ≠ .faultedSilent ∧ ∀ o, h.outstanding = some o → o.number ≠ number) →
            takeEcho t number arrival s = s)
          ∧ (∀ o, h.state ≠ .off → h.state ≠ .faultedSilent → h.outstanding = some o → o.number = number →
              takeEcho t number arrival s = takeSample t (max 1 (min 65535 (arrival - o.departure).toNat))
                (put { h with outstanding := none, miss := 0 }))
          ∧ (h.state = .faultedSilent →
              let z := (post .release (some t.val) 3 s).setTun t { x with health := seeding h }
              (x.keyState ≠ .held → takeEcho t number arrival s = takeEcho t number arrival z)
                ∧ ∀ c, x.keyState = .held → x.cur = some c →
                  let target := if c.number = 255 then 1 else c.number + 1
                  takeEcho t number arrival s = takeEcho t number arrival (attempt t target (z.setTun t { x with
                    health := seeding h, jitter := none, holdoff := none, attempts := 0, keyState := .offering target })))

/-! ### The office port, the cascade port and the notice expiries -/

/-- The office port takes the head of its queue, pads a short clear frame to 60 bytes, and frees the slot at the end of the
transmission (R54). The cascade port transmits the head of its list, which leaves it at the end; the loss of the link discards and
counts the list; a good management frame received there is offered unchanged and any other is counted (R163). That an event offered
where it cannot occur changes nothing is the model's choice (log entry 9). -/
def Obligations.OfficeAndCascadePorts : Prop :=
  ∀ s : State, s.rstLow = false →
    (∀ k f rest, s.officeTx = none → s.officeQueue = { kind := k, frame := f } :: rest → exec .officeTxStart s = .next { s with
          officeQueue := rest
          officeTx := some (if k = .clear then { f with bytes := f.bytes ++ List.replicate (60 - f.bytes.length) 0 } else f) })
      ∧ (s.officeTx ≠ none ∨ s.officeQueue = [] → exec .officeTxStart s = .next s)
      ∧ exec .officeTxComplete s = .next { s with officeTx := none }
      ∧ (s.cascadeUp = true → s.cascadeList ≠ [] → exec .cascadeTxStart s = .next { s with cascadeTx := true })
      ∧ (s.cascadeUp = false ∨ s.cascadeList = [] → exec .cascadeTxStart s = .next s)
      ∧ (∀ e rest, s.cascadeTx = true → s.cascadeList = e :: rest →
          exec .cascadeTxComplete s = .next { s with cascadeList := rest, cascadeTx := false })
      ∧ (s.cascadeTx = false → exec .cascadeTxComplete s = .next s)
      ∧ exec .cascadeLinkDown s = .next { s with
          cascadeUp := false, cascadeList := [], cascadeTx := false
          counters := { s.counters with cascadeDrop := satAdd s.counters.cascadeDrop s.cascadeList.length } }
      ∧ exec .cascadeLinkUp s = .next { s with cascadeUp := true }
      ∧ ∀ f fcsOk,
          (s.cascadeUp = true → f.good fcsOk = true → f.etherType = 0x88B5 → s.officeQueue.length < 512 → 0 < s.freeSlots →
              exec (.cascadeFrameReceive f fcsOk) s
                = .next { s with officeQueue := s.officeQueue ++ [{ kind := .cascade, frame := f }] })
            ∧ (s.cascadeUp = true → ¬ (f.good fcsOk = true ∧ f.etherType = 0x88B5) →
              exec (.cascadeFrameReceive f fcsOk) s
                = .next { s with counters := { s.counters with cascadeDrop := satAdd s.counters.cascadeDrop 1 } })
            ∧ (s.cascadeUp = false → exec (.cascadeFrameReceive f fcsOk) s = .next s)

/-- The report expiry: in streaming a notice is sent and the expiry moves on by the report interval; in event mode a notice is sent
and both expiries are armed, or it is left pending under the hold-off, while some flag of the mask is set, and the expiry becomes
absent otherwise. The end of the hold-off sends a pending notice while some flag of the mask is set (R158, R159, R160). A notice that
the office transmit queue drops is counted and recorded as OFFICE_OVERRUN with the free slots, the expiries armed all the same (R53,
R158); a flag of the event mask that this record newly sets leaves a notice pending, the model's reading of R160 (log entry 12).
Before its tick neither expiry is taken (R81); that an expiry is taken once the tick counter has reached it, at that tick or later, is
the model's choice (log entry 10). That an event offered where it cannot occur changes nothing is the model's choice (log entry 9). -/
def Obligations.NoticeExpiriesAreTaken : Prop :=
  ∀ s : State, s.rstLow = false →
    let sent := match s.station with
      | none => s.officeQueue
      | some dst => s.officeQueue ++ [{ kind := .notice, frame := noticeFrame dst s.label s.flags s.faults.length }]
    let room := s.station = none ∨ (s.officeQueue.length < 512 ∧ 0 < s.freeSlots)
    let streaming := s.flags.getLsbD 0 = true ∨ s.noticeMode = .streaming
    let masked := ∃ n, n < 11 ∧ s.flags.getLsbD n = true ∧ s.eventMask.getLsbD n = true
    let armed := { s with
      officeQueue := sent, reportExpiry := some (s.after s.reportInterval), holdoffExpiry := some (s.after s.noticeHoldoff) }
    let dropped := fun q : State =>
      let r := recordPost .officeOverrun none (BitVec.ofNat 32 s.freeSlots) { q with
        counters := { s.counters with officeOverrun := satInc s.counters.officeOverrun } }
      { r with noticePending := q.noticePending || decide (s.flags.getLsbD 0 = false ∧ s.noticeMode = .event
        ∧ r.flags &&& ~~~s.flags &&& s.eventMask ≠ 0) }
    (∀ e, s.reportExpiry = some e → s.reached (some e) = true →
        (streaming → room →
            exec .reportExpiry s = .next { s with officeQueue := sent, reportExpiry := some (s.after s.reportInterval) })
          ∧ (¬ streaming → masked → s.holdoffExpiry = none → room → exec .reportExpiry s = .next armed)
          ∧ (¬ streaming → masked → s.holdoffExpiry ≠ none →
              exec .reportExpiry s = .next { s with reportExpiry := none, noticePending := true })
          ∧ (¬ streaming → ¬ masked → exec .reportExpiry s = .next { s with reportExpiry := none })
          ∧ (streaming → ¬ room → exec .reportExpiry s = .next { dropped s with reportExpiry := some (s.after s.reportInterval) })
          ∧ (¬ streaming → masked → s.holdoffExpiry = none → ¬ room →
              exec .reportExpiry s = .next (dropped { s with
                reportExpiry := some (s.after s.reportInterval), holdoffExpiry := some (s.after s.noticeHoldoff) })))
      ∧ (∀ e, s.holdoffExpiry = some e → s.reached (some e) = true →
          (s.noticePending = true → masked → room →
              exec .noticeHoldoffExpiry s = .next { armed with noticePending := false })
            ∧ (s.noticePending = false ∨ ¬ masked →
              exec .noticeHoldoffExpiry s = .next { s with holdoffExpiry := none, noticePending := false })
            ∧ (s.noticePending = true → masked → ¬ room →
              exec .noticeHoldoffExpiry s = .next (dropped { s with
                reportExpiry := some (s.after s.reportInterval), holdoffExpiry := some (s.after s.noticeHoldoff)
                noticePending := false })))
      ∧ (∀ e, s.reportExpiry = some e → s.reached (some e) = false → exec .reportExpiry s = .next s)
      ∧ (∀ e, s.holdoffExpiry = some e → s.reached (some e) = false → exec .noticeHoldoffExpiry s = .next s)
      ∧ (s.reportExpiry = none → exec .reportExpiry s = .next s)
      ∧ (s.holdoffExpiry = none → exec .noticeHoldoffExpiry s = .next s)

/-! ### The commands -/

/-- Any command under the bridge's own label is answered BUSY while one is in progress, and one under the broadcast label other than
IDENTIFY and RESET is answered BAD_LABEL, with none of its effects but the learned address and the forwarding (R156, R162, R164,
R166). That a broadcast is answered BAD_LABEL before BUSY is the model's reading of R164 against R166 (log entry 22). -/
def Obligations.CommandsAreTurnedAway : Prop :=
  ∀ (c : Instr) (h : CmdHeader) (code : Byte) (pl : List Byte) (s : State), c.wire = some (h, code, pl) → s.rstLow = false →
    (h.broadcast = none → s.progress ≠ none → exec c s = .next ((s.learned h).answered h code .busy []))
      ∧ ∀ f, h.broadcast = some f →
        let q := (if s.cascadeUp = false then s
          else if s.cascadeList.length < 16 then { s with cascadeList := s.cascadeList ++ [{ frame := f, awaited := false }] }
          else { s with counters := { s.counters with cascadeDrop := satAdd s.counters.cascadeDrop 1 } } : State)
        (code ≠ 0x01 → code ≠ 0x1B → exec c s = .next (q.answered h code .badLabel []))
          ∧ (code = 0x01 ∨ code = 0x1B → s.progress ≠ none → exec c s = .next (q.answered h code .busy []))
          ∧ (c = .identify h → s.progress = none → exec c s = .next (q.answered h code .ok
              ([0x0B, 0x30, 1] ++ bytes16 s.label ++ [s.straps.setWidth 8] ++ bool8 h.prov ++ bool8 s.transportKey.isSome)))

/-- IDENTIFY, SET_LABEL, READ_COUNTERS and SET_TRANSPORT_KEY: the device type, versions, label, straps and fuses; the label, which
the reply already bears, and never the broadcast label; the 32 device counters in their order, none cleared; the fuses, written once
and only with PROV_S high (R165, R167, R168, R173). A counter of 32 bits stops at 2^32 - 1 and never wraps (R4, R27, R97, R173). -/
def Obligations.AgentCommands : Prop :=
  (∀ (c : BitVec 32) (n : Nat), (satInc c).toNat = min (c.toNat + 1) 4294967295
      ∧ (satAdd c n).toNat = min (c.toNat + n) 4294967295)
    ∧ ∀ (h : CmdHeader) (s : State), Taken h s → let q := s.learned h
    exec (.identify h) s = .next (q.answered h 0x01 .ok
        ([0x0B, 0x30, 1] ++ bytes16 s.label ++ [s.straps.setWidth 8] ++ bool8 h.prov ++ bool8 s.transportKey.isSome))
      ∧ (∀ label, label ≠ 0xFFFF → exec (.setLabel h label) s = .next (({ q with label := label } : State).answered h 0x02 .ok []))
      ∧ exec (.setLabel h 0xFFFF) s = .next (q.answered h 0x02 .badArg [])
      ∧ (∃ pl, exec (.readCounters h) s = .next (q.answered h 0x03 .ok pl) ∧ pl.length = 128
          ∧ be32At pl 0 = s.counters.officeRxError ∧ be32At pl 4 = s.counters.officeHoldOverrun
          ∧ be32At pl 8 = s.counters.tunnelTypeIn ∧ be32At pl 12 = s.counters.nonIp ∧ be32At pl 16 = s.counters.classDrop
          ∧ be32At pl 20 = s.counters.mapRange ∧ be32At pl 24 = s.counters.clearInbound ∧ be32At pl 28 = s.counters.malformed
          ∧ be32At pl 32 = s.counters.inactiveTunnel ∧ be32At pl 36 = s.counters.officeOverrun
          ∧ (∀ u : UplinkId, be32At pl (40 + 20 * u.val) = (s.uplink u).txCount
              ∧ be32At pl (44 + 20 * u.val) = (s.uplink u).txLost ∧ be32At pl (48 + 20 * u.val) = (s.uplink u).discards
              ∧ be32At pl (52 + 20 * u.val) = (s.uplink u).rxCount ∧ be32At pl (56 + 20 * u.val) = (s.uplink u).rxError)
          ∧ be32At pl 120 = s.counters.mgmtMalformed ∧ be32At pl 124 = s.counters.cascadeDrop)
      ∧ ∀ key,
          (h.prov = false → exec (.setTransportKey h key) s = .next (q.answered h 0x1A .locked []))
            ∧ (h.prov = true → s.transportKey ≠ none →
              exec (.setTransportKey h key) s = .next (q.answered h 0x1A .badState []))
            ∧ (h.prov = true → s.transportKey = none →
              exec (.setTransportKey h key) s = .next (({ q with transportKey := some key } : State).answered h 0x1A .ok []))

/-- ACK_RESET clears RESET and, where event mode comes into force, drops the timers that event mode does not hold; READ_SUMMARY reads the
flags, the depth and the overflow count and clears all but RESET; READ_FAULTS removes the oldest records (R152, R153, R154, R159).
SET_NOTICE stores its four settings, the interval and the hold-off brought into their ranges, drops the hold-off and a pending notice,
and runs the report expiry in streaming or while some flag of the mask is set; SET_INDICATOR stores mask and polarity; the pin follows
(R157, R161). -/
def Obligations.ReporterCommands : Prop :=
  (∀ (h : CmdHeader) (s : State), Taken h s → let q := s.learned h
     let level := fun f : BitVec 11 => if f &&& s.indicatorMask = 0 then !s.indicatorHigh else s.indicatorHigh
     (s.flags.getLsbD 0 = true → let f := s.flags &&& 0x7FE
         exec (.ackReset h) s = .next (({ q with
           flags := f, faultInd := level f
           reportExpiry := if s.noticeMode = .event ∧ f &&& s.eventMask = 0 then none else s.reportExpiry
           holdoffExpiry := if s.noticeMode = .event then none else s.holdoffExpiry
           noticePending := if s.noticeMode = .event then false else s.noticePending } : State).answered h 0x04 .ok
             (bytes16 (f.setWidth 16))))
       ∧ (s.flags.getLsbD 0 = false → exec (.ackReset h) s = .next (q.answered h 0x04 .ok (bytes16 (s.flags.setWidth 16))))
       ∧ (let f := s.flags &&& 1
         exec (.readSummary h) s = .next (({ q with flags := f, overflow := 0, faultInd := level f } : State).answered h 0x07 .ok
           (bytes16 (s.flags.setWidth 16) ++ [BitVec.ofNat 8 s.faults.length] ++ bytes16 (BitVec.ofNat 16 s.overflow))))
       ∧ (∀ n : Byte, n.toNat ≤ 8 → let left := s.faults.drop n.toNat
         exec (.readFaults h n) s = .next (({ q with faults := left } : State).answered h 0x08 .ok
           ([BitVec.ofNat 8 left.length, BitVec.ofNat 8 (min n.toNat s.faults.length)]
             ++ ((s.faults.take n.toNat).map FaultRecord.bytes).flatten)))
       ∧ (∀ n : Byte, 8 < n.toNat → exec (.readFaults h n) s = .next (q.answered h 0x08 .badArg []))
       ∧ ∀ r : FaultRecord, r.bytes.length = 18 ∧ byteAt r.bytes 0 = BitVec.ofNat 8 r.kind.code
           ∧ byteAt r.bytes 1 = (if r.subject = none then 0 else 1) ∧ be16At r.bytes 2 = BitVec.ofNat 16 (r.subject.getD 0)
           ∧ be32At r.bytes 4 = r.detail ∧ be16At r.bytes 8 = BitVec.ofNat 16 r.count ∧ be32At r.bytes 10 = r.first
           ∧ be32At r.bytes 14 = r.last)
    ∧ (∀ (h : CmdHeader) (s : State), Taken h s → let q := s.learned h
       (∀ (m : NoticeMode) (mode : Byte) (interval holdoff mask : BitVec 16), mode = (if m = .streaming then 0 else 1) →
           let i := max 10 interval.toNat
           let o := max 1 holdoff.toNat
           let k : BitVec 11 := mask.setWidth 11
           exec (.setNotice h mode interval holdoff mask) s = .next (({ q with
             noticeMode := m, reportInterval := i, noticeHoldoff := o, eventMask := k, holdoffExpiry := none, noticePending := false
             reportExpiry := if s.flags.getLsbD 0 = true ∨ m = .streaming ∨ s.flags &&& k ≠ 0 then some (s.after i) else none
             } : State).answered h 0x05 .ok
               ([mode] ++ bytes16 (BitVec.ofNat 16 i) ++ bytes16 (BitVec.ofNat 16 o) ++ bytes16 (mask &&& 0x07FF))))
         ∧ (∀ (mode : Byte) (interval holdoff mask : BitVec 16), 1 < mode.toNat →
             exec (.setNotice h mode interval holdoff mask) s = .next (q.answered h 0x05 .badArg []))
         ∧ ∀ (mask : BitVec 16) (polarity : Byte), let k : BitVec 11 := mask.setWidth 11
             let high := polarity.getLsbD 0
             exec (.setIndicator h mask polarity) s = .next (({ q with
               indicatorMask := k, indicatorHigh := high, faultInd := if s.flags &&& k = 0 then !high else high
               } : State).answered h 0x06 .ok (bytes16 (mask &&& 0x07FF) ++ bool8 high)))

/-- WRITE_INTERVAL and READ_INTERVAL, WRITE_GROUPS, APPLY_TABLES and SET_CLASSIFY: the shadow entry written, the fixed separator of
entry 47 kept; either copy read; the shadow groups; the check of the separators, and the swap it begins; the classification settings
(R6, R9, R10, R11, R101). The order of the copies in the WRITE_GROUPS reply and the action's code in that of READ_INTERVAL are the
model's (log entry 16). -/
def Obligations.TableCommands : Prop :=
  ∀ (h : CmdHeader) (s : State), Taken h s → let q := s.learned h
    (∀ (i : EntryId) (b : TunnelId) (a : IntervalAction) (entry action : Byte) (separator base : BitVec 16),
        entry.toNat = i.val → action = (if a = .drop then 0 else 1) → base.toNat = b.val →
        exec (.writeInterval h entry separator action base) s = .next (({ q with
          shadowIntervals := s.shadowIntervals.set i {
            separator := if i.val = 47 then s.shadowIntervals[i].separator else separator, action := a, base := b }
          } : State).answered h 0x09 .ok []))
      ∧ (∀ (entry action : Byte) (separator base : BitVec 16), 47 < entry.toNat ∨ 1 < action.toNat ∨ 1023 < base.toNat →
        exec (.writeInterval h entry separator action base) s = .next (q.answered h 0x09 .badArg []))
      ∧ (∀ (i : EntryId) (copy entry : Byte), entry.toNat = i.val → copy = 0 ∨ copy = 1 →
        let e := if copy = 0 then s.intervals[i] else s.shadowIntervals[i]
        exec (.readInterval h copy entry) s = .next (q.answered h 0x0A .ok
          (bytes32 (if i.val = 47 then 65536 else e.separator.setWidth 32) ++ [if e.action = .drop then 0 else 1]
            ++ bytes16 (BitVec.ofNat 16 e.base.val))))
      ∧ (∀ (copy entry : Byte), 1 < copy.toNat ∨ 47 < entry.toNat →
        exec (.readInterval h copy entry) s = .next (q.answered h 0x0A .badArg []))
      ∧ (∀ flags : Byte, let g : GroupFlags := { u1 := flags.getLsbD 1, u2 := flags.getLsbD 2, u3 := flags.getLsbD 3 }
        exec (.writeGroups h flags) s = .next (({ q with shadowGroupFlags := g } : State).answered h 0x0B .ok
          [s.groupFlags.byte, flags &&& 0x0E]))
      ∧ ((∀ i j : EntryId, i ≤ j → j.val < 47 →
            s.shadowIntervals[i].separator.toNat ≤ s.shadowIntervals[j].separator.toNat) →
        exec (.applyTables h) s
          = .next { q with paused := true, progress := some (.applyTables h.source h.tag false false) })
      ∧ ((∃ i j : EntryId, i ≤ j ∧ j.val < 47 ∧
            s.shadowIntervals[j].separator.toNat < s.shadowIntervals[i].separator.toNat) →
        exec (.applyTables h) s = .next (q.answered h 0x0C .badTable []))
      ∧ ∀ (offset : Byte) (port statusType : BitVec 16),
          (offset.toNat ≤ 16 → exec (.setClassify h offset port statusType) s = .next
              (({ q with keyOffset := offset.toNat, statusPort := port, statusType := statusType } : State).answered h 0x16 .ok []))
            ∧ (16 < offset.toNat →
              exec (.setClassify h offset port statusType) s = .next (q.answered h 0x16 .badArg []))

/-- The swap of an accepted APPLY_TABLES: the copy of the interval table, the group swap that puts every tunnel into the new group of
its shadow group and its waiting tunnels onto the new lists in the old order, and, with both done, the end and its reply (R11, R107).
That an event offered where it cannot occur changes nothing is the model's choice (log entry 9). -/
def Obligations.TablesAreSwapped : Prop :=
  ∀ (src : Mac) (tag : BitVec 16) (b : Bool) (s : State), s.rstLow = false →
    (s.progress = some (.applyTables src tag false b) → exec .intervalTableCopy s
        = .next { s with intervals := s.shadowIntervals, progress := some (.applyTables src tag true b) })
      ∧ (s.progress = some (.applyTables src tag b false) → ∃ r : State, exec .groupSwap s = .next (serveAll r)
          ∧ (∀ t, r.tun t = { s.tun t with cfg := { (s.tun t).cfg with
              activeGroup := groupStart s.shadowGroupFlags (s.tun t).cfg.shadowGroup } })
          ∧ (∀ g : UplinkId, r.pointers[g] = none ∧ r.list g
              = (s.list 0 ++ s.list 1 ++ s.list 2 ++ s.list 3).filter fun t => decide ((r.tun t).cfg.activeGroup = g))
          ∧ r = { s with
              groupFlags := s.shadowGroupFlags, progress := some (.applyTables src tag b true)
              tunnels := r.tunnels, waiting := r.waiting, pointers := r.pointers })
      ∧ (s.progress = some (.applyTables src tag true true) → exec .applyTablesComplete s
          = .next (sendReply src tag 0x0C .ok [] { s with paused := false, progress := none }))
      ∧ (s.progress = none → exec .intervalTableCopy s = .next s ∧ exec .groupSwap s = .next s
          ∧ exec .applyTablesComplete s = .next s)

/-- WRITE_PROFILE stores each value brought into its range of R28, the seed bounds exchanged when they stand the wrong way round, while
no enabled tunnel names the profile, and answers them; READ_PROFILE answers the stored fields and how many enabled tunnels name the
profile; READ_TUNNEL answers the entry, in 86 bytes (R26, R29, R30, R176). -/
def Obligations.ProfileAndReadCommands : Prop :=
  (∀ (h : CmdHeader) (s : State), Taken h s → let q := s.learned h
    (∀ (p : ProfileId) (b : Byte) (v : Profile), b.toNat = p.val →
        let low := max 1 (min 65535 v.seedMin)
        let high := max 1 (min 65535 v.seedMax)
        let w : Profile := {
          frameLimit := max 1048576 (min 4294967295 v.frameLimit)
          ageLimit := max 60 (min 65535 v.ageLimit)
          rateBeta := max 1 (min 255 v.rateBeta)
          response := max 10 (min 6000 v.response)
          retryLimit := min 7 v.retryLimit
          derivation := max 1 (min 1000 v.derivation)
          retryHoldoff := max 1 (min 65535 v.retryHoldoff)
          grace := max 10 (min 65535 v.grace)
          probeOpen := max 10 (min 65535 v.probeOpen)
          probeClosed := max 10 (min 65535 v.probeClosed)
          fastBeta := max 1 (min 255 v.fastBeta)
          baseBeta := max 1 (min 255 v.baseBeta)
          slowBeta := max 1 (min 255 v.slowBeta)
          threshold := max 1 (min 65535 v.threshold)
          suspectCount := max 1 (min 15 v.suspectCount)
          missLimit := max 1 (min 15 v.missLimit)
          seedCount := max 1 (min 16 v.seedCount)
          seedMin := if low ≤ high then low else high
          seedMax := if low ≤ high then high else low
          reseedBand := max 1 (min 65535 v.reseedBand)
          settleThreshold := min 65535 v.settleThreshold
          settleSamples := max 1 (min 255 v.settleSamples)
          releasePct := max 1 (min 127 v.releasePct)
          dormancyTimeout := max 60 (min 65535 v.dormancyTimeout)
          dataLimit := max 1 (min 64 v.dataLimit) }
        ((∃ t, (s.tun t).cfg.enabled = true ∧ (s.tun t).cfg.profile = p) →
            exec (.writeProfile h b v) s = .next (q.answered h 0x0D .badState []))
          ∧ (¬ (∃ t, (s.tun t).cfg.enabled = true ∧ (s.tun t).cfg.profile = p) →
            exec (.writeProfile h b v) s
              = .next (({ q with profiles := s.profiles.set p w } : State).answered h 0x0D .ok w.bytes))
          ∧ InRange w ∧ (InRange v → w = v)
          ∧ exec (.readProfile h b) s = .next (q.answered h 0x0E .ok (s.profiles[p].bytes ++ bytes16 (BitVec.ofNat 16
              ((List.finRange 1024).filter fun t => decide ((s.tun t).cfg.enabled = true ∧ (s.tun t).cfg.profile = p)).length))))
      ∧ (∀ (b : Byte) (v : Profile), 15 < b.toNat → exec (.writeProfile h b v) s = .next (q.answered h 0x0D .badArg [])
          ∧ exec (.readProfile h b) s = .next (q.answered h 0x0E .badArg []))
      ∧ (∀ (t : TunnelId) (b : BitVec 16), b.toNat = t.val →
          exec (.readTunnel h b) s = .next (q.answered h 0x10 .ok (s.tun t).bytes))
      ∧ ∀ b : BitVec 16, 1023 < b.toNat → exec (.readTunnel h b) s = .next (q.answered h 0x10 .badArg []))
    ∧ (∀ w : Profile, let bs := w.bytes
       let one := fun i => byteAt bs i
       let two := fun i => be16At bs i
       bs.length = 41 ∧ be32At bs 0 = BitVec.ofNat 32 w.frameLimit ∧ two 4 = BitVec.ofNat 16 w.ageLimit
         ∧ one 6 = BitVec.ofNat 8 w.rateBeta ∧ two 7 = BitVec.ofNat 16 w.response ∧ one 9 = BitVec.ofNat 8 w.retryLimit
         ∧ two 10 = BitVec.ofNat 16 w.derivation ∧ two 12 = BitVec.ofNat 16 w.retryHoldoff ∧ two 14 = BitVec.ofNat 16 w.grace
         ∧ two 16 = BitVec.ofNat 16 w.probeOpen ∧ two 18 = BitVec.ofNat 16 w.probeClosed ∧ one 20 = BitVec.ofNat 8 w.fastBeta
         ∧ one 21 = BitVec.ofNat 8 w.baseBeta ∧ one 22 = BitVec.ofNat 8 w.slowBeta ∧ two 23 = BitVec.ofNat 16 w.threshold
         ∧ one 25 = BitVec.ofNat 8 w.suspectCount ∧ one 26 = BitVec.ofNat 8 w.missLimit ∧ one 27 = BitVec.ofNat 8 w.seedCount
         ∧ two 28 = BitVec.ofNat 16 w.seedMin ∧ two 30 = BitVec.ofNat 16 w.seedMax ∧ two 32 = BitVec.ofNat 16 w.reseedBand
         ∧ two 34 = BitVec.ofNat 16 w.settleThreshold ∧ one 36 = BitVec.ofNat 8 w.settleSamples
         ∧ one 37 = BitVec.ofNat 8 w.releasePct ∧ two 38 = BitVec.ofNat 16 w.dormancyTimeout
         ∧ one 40 = BitVec.ofNat 8 w.dataLimit)
    ∧ ∀ x : Tunnel, let bs := x.bytes
       let flag := fun (i : Nat) (b : Bool) => byteAt bs i = if b then 1 else 0
       (bs.length = 86 ∧ flag 0 x.cfg.enabled ∧ byteAt bs 1 = BitVec.ofNat 8 x.cfg.profile.val ∧ be48At bs 2 = x.cfg.peer
           ∧ byteAt bs 8 = (match x.cfg.role with | .independent => 0 | .reference => 1 | .follower => 2)
           ∧ be16At bs 9 = BitVec.ofNat 16 x.cfg.reference.val ∧ be16At bs 11 = BitVec.ofNat 16 x.cfg.weight.val
           ∧ byteAt bs 13 = BitVec.ofNat 8 x.cfg.shadowGroup.val ∧ byteAt bs 14 = BitVec.ofNat 8 x.cfg.activeGroup.val
           ∧ flag 15 x.cfg.snoop)
         ∧ (byteAt bs 16 = (match x.keyState with
               | .noSecret => 0 | .bootstrap => 1 | .unkeyed => 2 | .offering _ => 3 | .deriv _ => 4 | .keyed => 5
               | .pending => 6 | .held => 7)
           ∧ flag 17 x.secret.isSome ∧ be16At bs 18 = (x.secret.map MasterSecret.epoch).getD 0 ∧ flag 20 x.gen0.isSome
           ∧ flag 21 x.cur.isSome ∧ byteAt bs 22 = (x.cur.map CurGen.number).getD 0
           ∧ be32At bs 23 = BitVec.ofNat 32 ((x.cur.map CurGen.lastSeq).getD 0)
           ∧ be16At bs 27 = BitVec.ofNat 16 ((x.cur.map CurGen.age).getD 0)
           ∧ flag 29 x.prev.isSome ∧ byteAt bs 30 = (x.prev.map PrevGen.number).getD 0)
         ∧ (byteAt bs 31 = (match x.shop with | .unknown => 0 | .opened => 1 | .closing => 2 | .closed => 3)
           ∧ flag 32 x.dormant ∧ flag 33 x.renewBefore ∧ be32At bs 34 = BitVec.ofNat 32 x.rate
           ∧ byteAt bs 38 = (match x.health.state with
               | .off => 0 | .unseeded => 1 | .seeding => 2 | .normal => 3 | .suspect => 4 | .faultedDelay => 5
               | .faultedSilent => 6)
           ∧ be32At bs 39 = BitVec.ofInt 32 x.health.comp ∧ be16At bs 43 = BitVec.ofNat 16 x.egress.length
           ∧ byteAt bs 45 = BitVec.ofNat 8 x.dataFrames)
         ∧ be32At bs 46 = x.counters.framesOut ∧ be32At bs 50 = x.counters.framesIn ∧ be32At bs 54 = x.counters.noKey
         ∧ be32At bs 58 = x.counters.exhausted ∧ be32At bs 62 = x.counters.tailDrop ∧ be32At bs 66 = x.counters.tagFail
         ∧ be32At bs 70 = x.counters.replay ∧ be32At bs 74 = x.counters.tooOld ∧ be32At bs 78 = x.counters.unknownGen
         ∧ be32At bs 82 = x.counters.staleControl

/-- WRITE_TUNNEL: refused with BAD_ARG for a value out of range and with BAD_STATE for a fixed field of an enabled tunnel; otherwise
the fields are stored, then enabled is written, and the entry is answered. Snoop enabled set from clear makes the shop state Unknown,
as a change of shop state (R25). Enabling a tunnel whose shop is Closed arms its dormancy timer (R140), and an UNKEYED tunnel starts
initial keying whatever its hold-off; disabling discards the generations, the queue and the derivation, and keeps the secret; a field
written with its present value does nothing more (R21, R22, R23, R25). -/
def Obligations.WriteTunnelChangesTheEntry : Prop :=
  ∀ (h : CmdHeader) (w : TunnelWrite) (s : State), Taken h s → let q := s.learned h
    let bad := (∃ b ∈ w.enabled, 1 < b.toNat) ∨ (∃ b ∈ w.profile, 15 < b.toNat) ∨ (∃ b ∈ w.role, 2 < b.toNat)
      ∨ (∃ b ∈ w.reference, 1023 < b.toNat) ∨ (∃ b ∈ w.weight, 8191 < b.toNat) ∨ (∃ b ∈ w.shadowGroup, 3 < b.toNat)
      ∨ ∃ b ∈ w.snoop, 1 < b.toNat
    let fixed := w.profile ≠ none ∨ w.peer ≠ none ∨ w.role ≠ none ∨ w.reference ≠ none ∨ w.weight ≠ none
    (1023 < w.tunnel.toNat ∨ bad → exec (.writeTunnel h w) s = .next (q.answered h 0x0F .badArg []))
      ∧ ∀ t : TunnelId, w.tunnel.toNat = t.val → ¬ bad → let x := s.tun t
        (x.cfg.enabled = true → fixed → exec (.writeTunnel h w) s = .next (q.answered h 0x0F .badState []))
          ∧ (x.cfg.enabled = false ∨ ¬ fixed → ∃ (c : TunnelConfig) (r : State),
            exec (.writeTunnel h w) s = .next ((settle t r).answered h 0x0F .ok ((settle t r).tun t).bytes)
              ∧ (c.enabled = x.cfg.enabled ∧ c.activeGroup = x.cfg.activeGroup
                  ∧ c.profile.val = (w.profile.map BitVec.toNat).getD x.cfg.profile.val ∧ c.peer = w.peer.getD x.cfg.peer
                  ∧ c.role = (match w.role with
                      | none => x.cfg.role
                      | some b => if b = 0 then .independent else if b = 1 then .reference else .follower)
                  ∧ c.reference.val = (w.reference.map BitVec.toNat).getD x.cfg.reference.val
                  ∧ c.weight.val = (w.weight.map BitVec.toNat).getD x.cfg.weight.val
                  ∧ c.shadowGroup.val = (w.shadowGroup.map BitVec.toNat).getD x.cfg.shadowGroup.val
                  ∧ c.snoop = (w.snoop.map fun b => decide (b = 1)).getD x.cfg.snoop)
              ∧ let z := q.setTun t { x with cfg := c }
                let stored := if w.snoop = some 1 ∧ x.cfg.snoop = false ∧ x.shop ≠ .unknown then changeShop t .unknown z else z
                let y := stored.tun t
                let enabled := { y with
                  cfg := { y.cfg with enabled := true }
                  dormancyExpiry := if y.shop = .closed then some (s.after ((stored.prof t).dormancyTimeout * 100))
                    else y.dormancyExpiry
                  dormancyDue := if y.shop = .closed then false else y.dormancyDue }
                (w.enabled = none ∨ w.enabled = some (if x.cfg.enabled then 1 else 0) → r = stored)
                  ∧ (w.enabled = some 1 → x.cfg.enabled = false → y.keyState ≠ .unkeyed → r = stored.setTun t enabled)
                  ∧ (w.enabled = some 1 → x.cfg.enabled = false → y.keyState = .unkeyed →
                      r = attempt t 1 (stored.setTun t { enabled with
                        holdoff := none, attempts := 0, keyState := .offering 1 }))
                  ∧ (w.enabled = some 0 → x.cfg.enabled = true →
                      r.tun t = { y with
                          cfg := { y.cfg with enabled := false }
                          cur := none, prev := none, nonce := none, attempts := 0, holdoff := none, jitter := none
                          grace := none, rate := 0, sample := 0, egress := [], dormant := false, renewBefore := false
                          dormancyExpiry := none, dormancyDue := false
                          health := { Health.reset with probe := y.health.probe }
                          keyState := if y.keyState = .noSecret ∨ y.keyState = .bootstrap then y.keyState else .unkeyed }
                        ∧ (∀ g, r.list g
                            = if g = y.cfg.activeGroup then (stored.list g).filter fun u => decide (u ≠ t) else stored.list g)
                        ∧ r.kduQueue = (stored.kduQueue.filter fun e => decide ¬ (e.tunnel = t ∧ e.kind ≠ .bootstrap))
                        ∧ r.kduFlight = stored.kduFlight.map (fun d =>
                            if d.owner = some t ∧ d.kind ≠ .bootstrap then { d with owner := none } else d)
                        ∧ (∀ t', t' ≠ t → r.tun t' = stored.tun t')
                        ∧ stored = { r with
                            tunnels := stored.tunnels, waiting := stored.waiting, kduQueue := stored.kduQueue
                            kduFlight := stored.kduFlight }))

/-- INSTALL_SECRET under the transport key and the tunnel it was made for stores secret and epoch, discards every generation and the
queue, and queues the bootstrap; any other block is WRAP_FAIL (R57). ERASE_KEYS discards the generations of a tunnel, and with scope
all its secret too; with scope generations a tunnel in NO_SECRET or BOOTSTRAP keeps its state and its bootstrap derivation, and has
its queue emptied, its sample count 0 and its health Off (R78, R79, R82). The derivation of the tunnel is aborted, in scope
generations a generation's alone: its entry leaves the queue, one in flight belongs to no tunnel, and the entries of other tunnels
keep their order (R61). RENEW_NOW starts the renewal or the initial keying of an enabled tunnel that can start one (R72); a dormant
one is woken first, and in UNKEYED the wake's own initial keying is the one that starts (R144, R145). The wrapped block stands as what
it wraps, the model's reading of R57 (log entry 4). -/
def Obligations.KeyCommands : Prop :=
  ∀ (h : CmdHeader) (t : TunnelId) (b : BitVec 16) (s : State), Taken h s → b.toNat = t.val → let q := s.learned h
    let x := s.tun t
    let bare := { x with
      cur := none, prev := none, nonce := none, attempts := 0, holdoff := none, jitter := none, grace := none
      rate := 0, sample := 0, egress := [], health := { Health.reset with probe := x.health.probe } }
    let still := { x with sample := 0, egress := [], health := { Health.reset with probe := x.health.probe } }
    let others := fun r : State => (∀ t', t' ≠ t → r.tun t' = s.tun t')
      ∧ (∀ g, r.list g = if g = x.cfg.activeGroup then (s.list g).filter fun u => decide (u ≠ t) else s.list g)
      ∧ q = { r with tunnels := s.tunnels, waiting := s.waiting, kduQueue := s.kduQueue, kduFlight := s.kduFlight }
    (∀ (k : BitVec 256) (content : BitVec 320), s.transportKey = some k → ∃ r : State,
        exec (.installSecret h b (some { key := k, tunnel := b, content := content })) s
            = .next (r.answered h 0x11 .ok (bytes16 (content.extractLsb' 48 16)))
          ∧ r.tun t = { bare with
              gen0 := none, keyState := .bootstrap
              secret := some { secret := content.extractLsb' 64 256, epoch := content.extractLsb' 48 16 } }
          ∧ r.kduQueue = (s.kduQueue.filter fun e => decide (e.tunnel ≠ t)) ++ [{ tunnel := t, kind := .bootstrap }]
          ∧ r.kduFlight = s.kduFlight.map (fun d => if d.owner = some t then { d with owner := none } else d) ∧ others r)
      ∧ (∀ block : Option Wrapping, (∀ w ∈ block, s.transportKey ≠ some w.key ∨ w.tunnel ≠ b) →
        exec (.installSecret h b block) s = .next (q.answered h 0x11 .wrapFail []))
      ∧ (∃ r : State, exec (.eraseKeysGenerations h b) s = .next ((settle t r).answered h 0x12 .ok [])
          ∧ (x.keyState ≠ .noSecret → x.keyState ≠ .bootstrap → r.tun t = { bare with keyState := .unkeyed }
              ∧ r.kduQueue = (s.kduQueue.filter fun e => decide ¬ (e.tunnel = t ∧ e.kind ≠ .bootstrap))
              ∧ r.kduFlight = s.kduFlight.map (fun d =>
                  if d.owner = some t ∧ d.kind ≠ .bootstrap then { d with owner := none } else d))
          ∧ (x.keyState = .noSecret ∨ x.keyState = .bootstrap → r.tun t = still
              ∧ r.kduQueue = s.kduQueue ∧ r.kduFlight = s.kduFlight) ∧ others r)
      ∧ (∃ r : State, exec (.eraseKeysAll h b) s = .next ((settle t r).answered h 0x12 .ok [])
          ∧ (x.keyState ≠ .noSecret → x.keyState ≠ .bootstrap →
              r.tun t = { bare with gen0 := none, secret := none, keyState := .noSecret })
          ∧ (x.keyState = .noSecret ∨ x.keyState = .bootstrap →
              r.tun t = { still with gen0 := none, secret := none, keyState := .noSecret })
          ∧ r.kduQueue = (s.kduQueue.filter fun e => decide (e.tunnel ≠ t))
          ∧ r.kduFlight = s.kduFlight.map (fun d => if d.owner = some t then { d with owner := none } else d) ∧ others r)
      ∧ (∀ c, x.cfg.enabled = true → x.dormant = false → x.keyState = .keyed ∨ x.keyState = .pending ∨ x.keyState = .held →
          x.cur = some c → let target := if c.number = 255 then 1 else c.number + 1
          exec (.renewNow h b) s = .next ((settle t (attempt t target (q.setTun t { x with
            jitter := none, holdoff := none, attempts := 0, keyState := .offering target }))).answered h 0x13 .ok [target]))
      ∧ (x.cfg.enabled = true → x.dormant = false → x.keyState = .unkeyed → x.cur = none →
          exec (.renewNow h b) s = .next ((settle t (attempt t 1 (q.setTun t { x with
            holdoff := none, attempts := 0, keyState := .offering 1 }))).answered h 0x13 .ok [1]))
      ∧ (x.cfg.enabled = true → x.dormant = true →
          let awake := fun y : Tunnel => { y with
            dormant := false
            dormancyExpiry := if x.shop = .closed then some (s.after ((s.prof t).dormancyTimeout * 100)) else y.dormancyExpiry
            dormancyDue := if x.shop = .closed then false else y.dormancyDue }
          (∀ c, x.keyState = .keyed ∨ x.keyState = .pending ∨ x.keyState = .held → x.cur = some c →
              let target := if c.number = 255 then 1 else c.number + 1
              exec (.renewNow h b) s = .next ((settle t (attempt t target (q.setTun t (awake { x with
                renewBefore := true, jitter := none, holdoff := none, attempts := 0, keyState := .offering target
                health := { x.health with
                  state := .seeding, seeds := [], snapshot := none, miss := 0, suspect := 0, settle := 0, comp := 0
                  expiry := some s.tick } })))).answered h 0x13 .ok [target]))
            ∧ (x.keyState = .unkeyed → x.cur = none →
              let r := attempt t 1 (q.setTun t { x with
                dormant := false, holdoff := none, attempts := 0, keyState := .offering 1 })
              exec (.renewNow h b) s
                = .next ((settle t (r.setTun t (awake (r.tun t)))).answered h 0x13 .ok [1])))
      ∧ (x.cfg.enabled = false ∨ x.keyState = .noSecret ∨ x.keyState = .bootstrap
            ∨ (∃ g, x.keyState = .offering g ∨ x.keyState = .deriv g) →
          exec (.renewNow h b) s = .next (q.answered h 0x13 .badState []))

/-- SET_SHOP_STATE clears snoop enabled and changes a shop state that differs; RESEED takes a tunnel outside Off into Seeding, a fault
being released with detail 5; both answer the state before. SET_JITTER stores a seed or a range of 0 as 1; SET_RETENTION stores both
masks (R32, R90, R125, R138). A tunnel above 1023 is refused by every command that names one. -/
def Obligations.TunnelSettingCommands : Prop :=
  ∀ (h : CmdHeader) (s : State), Taken h s → let q := s.learned h
    (∀ (t : TunnelId) (b : BitVec 16), b.toNat = t.val → let x := s.tun t
        let y := q.setTun t { x with cfg := { x.cfg with snoop := false } }
        (∀ new : ShopState, exec (.setShopState h b (BitVec.ofNat 8 new.code)) s = .next
            ((settle t (if x.shop = new then y else changeShop t new y)).answered h 0x14 .ok [BitVec.ofNat 8 x.shop.code]))
          ∧ (∀ shop : Byte, 3 < shop.toNat → exec (.setShopState h b shop) s = .next (q.answered h 0x14 .badArg []))
          ∧ (x.health.state = .off → exec (.reseed h b) s = .next (q.answered h 0x15 .badState []))
          ∧ (x.health.state ≠ .off → ∃ r : State,
            exec (.reseed h b) s = .next ((settle t r).answered h 0x15 .ok [BitVec.ofNat 8 x.health.state.code])
              ∧ let p := if x.health.state = .faultedDelay ∨ x.health.state = .faultedSilent then post .release (some t.val) 5 q else q
                let z := p.setTun t { x with health := { x.health with
                  state := .seeding, seeds := [], snapshot := none, miss := 0, suspect := 0, settle := 0, comp := 0 } }
                (x.health.state ≠ .faultedSilent ∨ x.keyState ≠ .held → r = z)
                  ∧ ∀ c, x.health.state = .faultedSilent → x.keyState = .held → x.cur = some c →
                    let target := if c.number = 255 then 1 else c.number + 1
                    r = attempt t target (z.setTun t { z.tun t with
                      jitter := none, holdoff := none, attempts := 0, keyState := .offering target })))
      ∧ (∀ seed base range : BitVec 16, let g : BitVec 16 := if seed = 0 then 1 else seed
          let n : BitVec 16 := if range = 0 then 1 else range
          exec (.setJitter h seed base range) s = .next (({ q with
            lfsr := g, jitterBase := base.toNat, jitterRange := n.toNat } : State).answered h 0x17 .ok
              (bytes16 g ++ bytes16 base ++ bytes16 n)))
      ∧ (∀ bank segment : Byte, exec (.setRetention h bank segment) s
          = .next (({ q with bankMask := bank, segmentMask := segment } : State).answered h 0x18 .ok []))
      ∧ ∀ (b : BitVec 16) (shop : Byte) (block : Option Wrapping), 1023 < b.toNat →
          exec (.setShopState h b shop) s = .next (q.answered h 0x14 .badArg [])
            ∧ exec (.reseed h b) s = .next (q.answered h 0x15 .badArg [])
            ∧ exec (.installSecret h b block) s = .next (q.answered h 0x11 .badArg [])
            ∧ exec (.eraseKeysGenerations h b) s = .next (q.answered h 0x12 .badArg [])
            ∧ exec (.eraseKeysAll h b) s = .next (q.answered h 0x12 .badArg [])
            ∧ exec (.renewNow h b) s = .next (q.answered h 0x13 .badArg [])

/-- UPLINK stores both flags and acts on its request by the link state and the carrier: a start brings up a port with a carrier, and
takes one without a carrier to Errored with its record; a stop loses the frame in transmission; a start of an Up port is its flags
alone (R94, R95, R104). The layout of the reply is the model's (log entry 16). So is that a stop, and a start
without a carrier, leave the consecutive receive errors as they are, which those rows of R94 do not name (log entry 14). -/
def Obligations.UplinkCommands : Prop :=
  ∀ (h : CmdHeader) (u : UplinkId) (b flags : Byte) (s : State), Taken h s → b.toNat = u.val → let q := s.learned h
    let x := { s.uplink u with autoRestart := flags.getLsbD 0, discardOnError := flags.getLsbD 1 }
    let reply := fun link : Byte => [link] ++ bool8 (flags.getLsbD 0) ++ bool8 (flags.getLsbD 1)
    ((s.uplink u).link = .up → exec (.uplinkStart h b flags) s
          = .next ((serveAll (q.setUplink u x)).answered h 0x19 .ok (reply 1)))
      ∧ ((s.uplink u).link ≠ .up → (s.uplink u).carrier = true → exec (.uplinkStart h b flags) s
          = .next ((serveAll (q.setUplink u { x with link := .up, cause := .none, erroredSince := none, rxErrors := 0 })).answered
              h 0x19 .ok (reply 1)))
      ∧ ((s.uplink u).link ≠ .up → (s.uplink u).carrier = false → exec (.uplinkStart h b flags) s
          = .next ((serveAll (post .uplinkDown (some u.val) 1 (q.setUplink u { x with
              link := .errored, cause := .carrierLoss, erroredSince := some s.tick }))).answered h 0x19 .ok (reply 2)))
      ∧ exec (.uplinkStop h b flags) s = .next ((q.setUplink u { x with
          link := .stopped, cause := .none, erroredSince := none, tx := none
          txLost := if x.tx.isSome then satInc x.txLost else x.txLost }).answered h 0x19 .ok (reply 0))
      ∧ ∀ c : Byte, 3 < c.toNat → exec (.uplinkStart h c flags) s = .next (q.answered h 0x19 .badArg [])
          ∧ exec (.uplinkStop h c flags) s = .next (q.answered h 0x19 .badArg [])

/-- RESET of level 1 clears every counter, the fault queue, the overflow count and every flag but RESET (R169). RESET of level 2 takes
every tunnel's generations, queue and dormancy, queues the bootstraps again in tunnel order, and completes with the initial keyings
and its reply (R20, R62, R137, R170). RESET of level 3 is accepted, and waits for its own forwarded frame (R172). Each is valid under the
broadcast label too: its frame is forwarded first while the cascade link is up, or dropped and counted there when the list is full,
no station address is learned, and a level 3 whose frame did not join the list waits for none (R156, R162, R163, R169, R172). Where
the parts of a level 2 are taken is the model's choice (log entries 8 and 9). -/
def Obligations.ResetCommands : Prop :=
  ∀ (h : CmdHeader) (s : State), s.rstLow = false → s.progress = none →
    let q : State := match h.broadcast with
      | none => s.learned h
      | some f => if s.cascadeUp = false then s
        else if s.cascadeList.length < 16 then { s with cascadeList := s.cascadeList ++ [{ frame := f, awaited := false }] }
        else ({ s with counters := { s.counters with cascadeDrop := satAdd s.counters.cascadeDrop 1 } } : State)
    (∃ r : State, exec (.resetLevel1 h) s = .next (r.answered h 0x1B .ok [])
        ∧ (∀ t, r.tun t = { s.tun t with counters := {
            framesOut := 0, framesIn := 0, noKey := 0, exhausted := 0, tailDrop := 0, tagFail := 0, replay := 0, tooOld := 0
            unknownGen := 0, staleControl := 0 } })
        ∧ (∀ u, r.uplink u = { s.uplink u with txCount := 0, txLost := 0, discards := 0, rxCount := 0, rxError := 0 })
        ∧ r = { q with
            counters := {
              officeRxError := 0, officeHoldOverrun := 0, tunnelTypeIn := 0, nonIp := 0, classDrop := 0, mapRange := 0
              clearInbound := 0, malformed := 0, inactiveTunnel := 0, officeOverrun := 0, mgmtMalformed := 0, cascadeDrop := 0 }
            faults := [], overflow := 0, flags := s.flags &&& 1, faultInd := r.indicatorLevel
            tunnels := r.tunnels, uplinks := r.uplinks })
      ∧ (∃ r : State, exec (.resetLevel2 h) s
            = .next { startDerivation r with progress := some (.level2 h.source h.tag) }
        ∧ (∀ t, let x := s.tun t
          r.tun t = { x with
            cur := none, prev := none, nonce := none, attempts := 0, holdoff := none, jitter := none, grace := none
            rate := 0, sample := 0, egress := [], dormant := false, renewBefore := false, dormancyDue := false
            keyState := if x.keyState = .noSecret ∨ x.keyState = .bootstrap then x.keyState else .unkeyed
            dormancyExpiry := if x.cfg.enabled = true ∧ x.shop = .closed
              then some (s.after ((s.prof t).dormancyTimeout * 100)) else none
            health := { Health.reset with probe := x.health.probe } })
        ∧ (∀ g, r.list g = [])
        ∧ r.kduQueue = ((List.finRange 1024).filter fun t => decide ((s.tun t).keyState = .bootstrap)).map
            (fun t => { tunnel := t, kind := .bootstrap })
        ∧ r.kduFlight = s.kduFlight.map (fun d => { d with owner := none })
        ∧ r = { q with tunnels := r.tunnels, waiting := r.waiting, kduQueue := r.kduQueue, kduFlight := r.kduFlight })
      ∧ (h.broadcast = none ∨ s.cascadeUp = false ∨ 16 ≤ s.cascadeList.length →
          exec (.resetLevel3 h) s = .next { q with progress := some (.level3 h.source h.tag) })
      ∧ ∀ f, h.broadcast = some f → s.cascadeUp = true → s.cascadeList.length < 16 →
          exec (.resetLevel3 h) s = .next { s with
            progress := some (.level3 h.source h.tag)
            cascadeList := s.cascadeList ++ [{ frame := f, awaited := true }] }

/-- The end of a RESET of level 2: every enabled UNKEYED tunnel makes its first attempt, in ascending order, and the reply is queued
(R20, R65, R170); that one fallen dormant meanwhile is dormant no more, and that its Closed shop's timer runs anew, is the model's
inference (log entry 19). The performance of a level 3 and the rise of RST_N give every block its reset values, the level 3 with its
reply under the new label; a level 3 waits while its frame is in the cascade list. The fall of RST_N ends what is under way (R161,
R171, R172), of which the transmission at the cascade port is the model's inference (log entry 17). The carrier signals, the fuses and
the source of nonces go on, and so does the queue of waiting commands (R56, R168; log entries 7 and 15). That an event offered where
it cannot occur changes nothing is the model's choice (log entry 9). -/
def Obligations.ResetsTakeEffect : Prop :=
  (∀ (src : Mac) (tag : BitVec 16) (s : State), s.rstLow = false → s.progress = some (.level2 src tag) →
      exec .resetLevel2Complete s = .next (serveAll (sendReply src tag 0x1B .ok []
        (((List.finRange 1024).filter fun t => decide ((s.tun t).cfg.enabled = true ∧ (s.tun t).keyState = .unkeyed)).foldl
          (fun r t => let x := r.tun t
            let anew := x.dormant = true ∧ x.shop = .closed
            attempt t 1 (r.setTun t { x with
              holdoff := none, attempts := 0, keyState := .offering 1, dormant := false
              dormancyExpiry := if anew then some (s.after ((s.prof t).dormancyTimeout * 100)) else x.dormancyExpiry
              dormancyDue := if anew then false else x.dormancyDue }))
          { s with progress := none }))))
    ∧ ∀ (straps : BitVec 6) (s : State), ∃ r : State,
        (∀ t, r.tun t = {
            cfg := {
              enabled := false, profile := 0, peer := 0, role := .independent, reference := 0, weight := 4096
              shadowGroup := 0, activeGroup := 0, snoop := true }
            keyState := .noSecret, secret := none, gen0 := none, cur := none, prev := none, nonce := none, attempts := 0
            holdoff := none, jitter := none, grace := none, rate := 0, sample := 0, shop := .unknown, dormant := false
            renewBefore := false, dormancyExpiry := none, dormancyDue := false, egress := []
            health := {
              state := .off, probe := 0, outstanding := none, expiry := none, miss := 0, seeds := [], refSeed := 0
              fast := 0, slow := 0, base := 0, dev := 0, comp := 0, suspect := 0, settle := 0, snapshot := none }
            counters := {
              framesOut := 0, framesIn := 0, noKey := 0, exhausted := 0, tailDrop := 0, tagFail := 0, replay := 0
              tooOld := 0, unknownGen := 0, staleControl := 0 } })
        ∧ (∀ p : ProfileId, r.profiles[p] = {
            frameLimit := 2147483648, ageLimit := 28800, rateBeta := 32, response := 150, retryLimit := 2, derivation := 10
            retryHoldoff := 3000, grace := 500, probeOpen := 100, probeClosed := 1500, fastBeta := 64, baseBeta := 4
            slowBeta := 16, threshold := 50, suspectCount := 3, missLimit := 4, seedCount := 8, seedMin := 1
            seedMax := 20000, reseedBand := 1000, settleThreshold := 20, settleSamples := 10, releasePct := 64
            dormancyTimeout := 1800, dataLimit := 32 })
        ∧ (∀ i : EntryId, r.intervals[i] = { separator := 65535, action := .drop, base := 0 }
            ∧ r.shadowIntervals[i] = { separator := 65535, action := .drop, base := 0 })
        ∧ (∀ u, r.list u = [] ∧ r.pointers[u] = none ∧ r.uplink u = {
            link := .stopped, autoRestart := false, discardOnError := false, cause := .none, erroredSince := none
            rxErrors := 0, tx := none, carrier := (s.uplink u).carrier, delivered := [], txCount := 0, txLost := 0
            discards := 0, rxCount := 0, rxError := 0 })
        ∧ r.counters = {
            officeRxError := 0, officeHoldOverrun := 0, tunnelTypeIn := 0, nonIp := 0, classDrop := 0, mapRange := 0
            clearInbound := 0, malformed := 0, inactiveTunnel := 0, officeOverrun := 0, mgmtMalformed := 0, cascadeDrop := 0 }
        ∧ r.groupFlags = { u1 := false, u2 := false, u3 := false }
        ∧ r.shadowGroupFlags = { u1 := false, u2 := false, u3 := false }
        ∧ (r.rstLow = false ∧ r.tick = 0 ∧ r.phase = 0 ∧ r.intervalEnd = false ∧ r.clock = 0 ∧ r.holding = []
          ∧ r.paused = false ∧ r.keyOffset = 8 ∧ r.statusPort = 0 ∧ r.statusType = 0x5354 ∧ r.bankMask = 0 ∧ r.segmentMask = 0
          ∧ r.kduQueue = [] ∧ r.kduFlight = none ∧ r.lfsr = 1 ∧ r.jitterBase = 0 ∧ r.jitterRange = 1)
        ∧ (r.officeQueue = [] ∧ r.officeTx = none ∧ r.cascadeList = [] ∧ r.cascadeTx = false ∧ r.faults = [] ∧ r.flags = 1
          ∧ r.overflow = 0 ∧ r.station = none ∧ r.noticeMode = .event ∧ r.reportInterval = 100 ∧ r.noticeHoldoff = 50
          ∧ r.eventMask = 0x7FF ∧ r.reportExpiry = some 100 ∧ r.holdoffExpiry = none ∧ r.noticePending = false
          ∧ r.indicatorMask = 0x7FF ∧ r.indicatorHigh = false ∧ r.faultInd = false ∧ r.label = straps.setWidth 16
          ∧ r.straps = straps ∧ r.progress = none)
        ∧ (r.transportKey = s.transportKey ∧ r.draws = s.draws ∧ r.cascadeUp = s.cascadeUp ∧ r.pending = s.pending)
        ∧ r = { State.afterReset straps with
            transportKey := s.transportKey, draws := s.draws, uplinks := r.uplinks, cascadeUp := s.cascadeUp
            pending := s.pending }
        ∧ (s.rstLow = true → exec (.pinResetRelease straps) s = .next r)
        ∧ (s.rstLow = false → exec (.pinResetRelease straps) s = .next s)
        ∧ (∀ src tag, s.rstLow = false → s.progress = some (.level3 src tag) →
            ((∀ e ∈ s.cascadeList, e.awaited = false) →
                exec (.resetLevel3Perform straps) s = .next (sendReply src tag 0x1B .ok [] r))
              ∧ ((∃ e ∈ s.cascadeList, e.awaited = true) → exec (.resetLevel3Perform straps) s = .next s))
        ∧ ∃ d : State, exec .pinResetAssert s = .next d ∧ (∀ u, d.uplink u = { s.uplink u with tx := none })
          ∧ d = { s with
              rstLow := true, faultInd := true, progress := none, kduFlight := none, officeTx := none, cascadeTx := false
              uplinks := d.uplinks }
end

