-- ==== Sys2Proof/Laws/State.lean ====
section
/-! SUPPORT. The fields of a state after each named update, one lemma per field per update, and reading an entry after an entry
has been written. -/

namespace Sys2Proof.Machine

/-! ### `setTun` -/

@[simp] theorem State.setTun_rstLow (s : State) (t : TunnelId) (x : Tunnel) : (s.setTun t x).rstLow = s.rstLow := rfl
@[simp] theorem State.setTun_tick (s : State) (t : TunnelId) (x : Tunnel) : (s.setTun t x).tick = s.tick := rfl
@[simp] theorem State.setTun_phase (s : State) (t : TunnelId) (x : Tunnel) : (s.setTun t x).phase = s.phase := rfl
@[simp] theorem State.setTun_intervalEnd (s : State) (t : TunnelId) (x : Tunnel) : (s.setTun t x).intervalEnd = s.intervalEnd := rfl
@[simp] theorem State.setTun_clock (s : State) (t : TunnelId) (x : Tunnel) : (s.setTun t x).clock = s.clock := rfl
@[simp] theorem State.setTun_holding (s : State) (t : TunnelId) (x : Tunnel) : (s.setTun t x).holding = s.holding := rfl
@[simp] theorem State.setTun_paused (s : State) (t : TunnelId) (x : Tunnel) : (s.setTun t x).paused = s.paused := rfl
@[simp] theorem State.setTun_intervals (s : State) (t : TunnelId) (x : Tunnel) : (s.setTun t x).intervals = s.intervals := rfl
@[simp] theorem State.setTun_shadowIntervals (s : State) (t : TunnelId) (x : Tunnel) : (s.setTun t x).shadowIntervals = s.shadowIntervals := rfl
@[simp] theorem State.setTun_keyOffset (s : State) (t : TunnelId) (x : Tunnel) : (s.setTun t x).keyOffset = s.keyOffset := rfl
@[simp] theorem State.setTun_statusPort (s : State) (t : TunnelId) (x : Tunnel) : (s.setTun t x).statusPort = s.statusPort := rfl
@[simp] theorem State.setTun_statusType (s : State) (t : TunnelId) (x : Tunnel) : (s.setTun t x).statusType = s.statusType := rfl
@[simp] theorem State.setTun_counters (s : State) (t : TunnelId) (x : Tunnel) : (s.setTun t x).counters = s.counters := rfl
@[simp] theorem State.setTun_profiles (s : State) (t : TunnelId) (x : Tunnel) : (s.setTun t x).profiles = s.profiles := rfl
@[simp] theorem State.setTun_bankMask (s : State) (t : TunnelId) (x : Tunnel) : (s.setTun t x).bankMask = s.bankMask := rfl
@[simp] theorem State.setTun_segmentMask (s : State) (t : TunnelId) (x : Tunnel) : (s.setTun t x).segmentMask = s.segmentMask := rfl
@[simp] theorem State.setTun_kduQueue (s : State) (t : TunnelId) (x : Tunnel) : (s.setTun t x).kduQueue = s.kduQueue := rfl
@[simp] theorem State.setTun_kduFlight (s : State) (t : TunnelId) (x : Tunnel) : (s.setTun t x).kduFlight = s.kduFlight := rfl
@[simp] theorem State.setTun_draws (s : State) (t : TunnelId) (x : Tunnel) : (s.setTun t x).draws = s.draws := rfl
@[simp] theorem State.setTun_lfsr (s : State) (t : TunnelId) (x : Tunnel) : (s.setTun t x).lfsr = s.lfsr := rfl
@[simp] theorem State.setTun_jitterBase (s : State) (t : TunnelId) (x : Tunnel) : (s.setTun t x).jitterBase = s.jitterBase := rfl
@[simp] theorem State.setTun_jitterRange (s : State) (t : TunnelId) (x : Tunnel) : (s.setTun t x).jitterRange = s.jitterRange := rfl
@[simp] theorem State.setTun_uplinks (s : State) (t : TunnelId) (x : Tunnel) : (s.setTun t x).uplinks = s.uplinks := rfl
@[simp] theorem State.setTun_groupFlags (s : State) (t : TunnelId) (x : Tunnel) : (s.setTun t x).groupFlags = s.groupFlags := rfl
@[simp] theorem State.setTun_shadowGroupFlags (s : State) (t : TunnelId) (x : Tunnel) : (s.setTun t x).shadowGroupFlags = s.shadowGroupFlags := rfl
@[simp] theorem State.setTun_waiting (s : State) (t : TunnelId) (x : Tunnel) : (s.setTun t x).waiting = s.waiting := rfl
@[simp] theorem State.setTun_pointers (s : State) (t : TunnelId) (x : Tunnel) : (s.setTun t x).pointers = s.pointers := rfl
@[simp] theorem State.setTun_officeQueue (s : State) (t : TunnelId) (x : Tunnel) : (s.setTun t x).officeQueue = s.officeQueue := rfl
@[simp] theorem State.setTun_officeTx (s : State) (t : TunnelId) (x : Tunnel) : (s.setTun t x).officeTx = s.officeTx := rfl
@[simp] theorem State.setTun_cascadeUp (s : State) (t : TunnelId) (x : Tunnel) : (s.setTun t x).cascadeUp = s.cascadeUp := rfl
@[simp] theorem State.setTun_cascadeList (s : State) (t : TunnelId) (x : Tunnel) : (s.setTun t x).cascadeList = s.cascadeList := rfl
@[simp] theorem State.setTun_cascadeTx (s : State) (t : TunnelId) (x : Tunnel) : (s.setTun t x).cascadeTx = s.cascadeTx := rfl
@[simp] theorem State.setTun_faults (s : State) (t : TunnelId) (x : Tunnel) : (s.setTun t x).faults = s.faults := rfl
@[simp] theorem State.setTun_flags (s : State) (t : TunnelId) (x : Tunnel) : (s.setTun t x).flags = s.flags := rfl
@[simp] theorem State.setTun_overflow (s : State) (t : TunnelId) (x : Tunnel) : (s.setTun t x).overflow = s.overflow := rfl
@[simp] theorem State.setTun_station (s : State) (t : TunnelId) (x : Tunnel) : (s.setTun t x).station = s.station := rfl
@[simp] theorem State.setTun_noticeMode (s : State) (t : TunnelId) (x : Tunnel) : (s.setTun t x).noticeMode = s.noticeMode := rfl
@[simp] theorem State.setTun_reportInterval (s : State) (t : TunnelId) (x : Tunnel) : (s.setTun t x).reportInterval = s.reportInterval := rfl
@[simp] theorem State.setTun_noticeHoldoff (s : State) (t : TunnelId) (x : Tunnel) : (s.setTun t x).noticeHoldoff = s.noticeHoldoff := rfl
@[simp] theorem State.setTun_eventMask (s : State) (t : TunnelId) (x : Tunnel) : (s.setTun t x).eventMask = s.eventMask := rfl
@[simp] theorem State.setTun_reportExpiry (s : State) (t : TunnelId) (x : Tunnel) : (s.setTun t x).reportExpiry = s.reportExpiry := rfl
@[simp] theorem State.setTun_holdoffExpiry (s : State) (t : TunnelId) (x : Tunnel) : (s.setTun t x).holdoffExpiry = s.holdoffExpiry := rfl
@[simp] theorem State.setTun_noticePending (s : State) (t : TunnelId) (x : Tunnel) : (s.setTun t x).noticePending = s.noticePending := rfl
@[simp] theorem State.setTun_indicatorMask (s : State) (t : TunnelId) (x : Tunnel) : (s.setTun t x).indicatorMask = s.indicatorMask := rfl
@[simp] theorem State.setTun_indicatorHigh (s : State) (t : TunnelId) (x : Tunnel) : (s.setTun t x).indicatorHigh = s.indicatorHigh := rfl
@[simp] theorem State.setTun_faultInd (s : State) (t : TunnelId) (x : Tunnel) : (s.setTun t x).faultInd = s.faultInd := rfl
@[simp] theorem State.setTun_label (s : State) (t : TunnelId) (x : Tunnel) : (s.setTun t x).label = s.label := rfl
@[simp] theorem State.setTun_straps (s : State) (t : TunnelId) (x : Tunnel) : (s.setTun t x).straps = s.straps := rfl
@[simp] theorem State.setTun_progress (s : State) (t : TunnelId) (x : Tunnel) : (s.setTun t x).progress = s.progress := rfl
@[simp] theorem State.setTun_transportKey (s : State) (t : TunnelId) (x : Tunnel) : (s.setTun t x).transportKey = s.transportKey := rfl
@[simp] theorem State.setTun_pending (s : State) (t : TunnelId) (x : Tunnel) : (s.setTun t x).pending = s.pending := rfl

/-! ### `setUplink` -/

@[simp] theorem State.setUplink_rstLow (s : State) (u : UplinkId) (x : Uplink) : (s.setUplink u x).rstLow = s.rstLow := rfl
@[simp] theorem State.setUplink_tick (s : State) (u : UplinkId) (x : Uplink) : (s.setUplink u x).tick = s.tick := rfl
@[simp] theorem State.setUplink_phase (s : State) (u : UplinkId) (x : Uplink) : (s.setUplink u x).phase = s.phase := rfl
@[simp] theorem State.setUplink_intervalEnd (s : State) (u : UplinkId) (x : Uplink) : (s.setUplink u x).intervalEnd = s.intervalEnd := rfl
@[simp] theorem State.setUplink_clock (s : State) (u : UplinkId) (x : Uplink) : (s.setUplink u x).clock = s.clock := rfl
@[simp] theorem State.setUplink_holding (s : State) (u : UplinkId) (x : Uplink) : (s.setUplink u x).holding = s.holding := rfl
@[simp] theorem State.setUplink_paused (s : State) (u : UplinkId) (x : Uplink) : (s.setUplink u x).paused = s.paused := rfl
@[simp] theorem State.setUplink_intervals (s : State) (u : UplinkId) (x : Uplink) : (s.setUplink u x).intervals = s.intervals := rfl
@[simp] theorem State.setUplink_shadowIntervals (s : State) (u : UplinkId) (x : Uplink) : (s.setUplink u x).shadowIntervals = s.shadowIntervals := rfl
@[simp] theorem State.setUplink_keyOffset (s : State) (u : UplinkId) (x : Uplink) : (s.setUplink u x).keyOffset = s.keyOffset := rfl
@[simp] theorem State.setUplink_statusPort (s : State) (u : UplinkId) (x : Uplink) : (s.setUplink u x).statusPort = s.statusPort := rfl
@[simp] theorem State.setUplink_statusType (s : State) (u : UplinkId) (x : Uplink) : (s.setUplink u x).statusType = s.statusType := rfl
@[simp] theorem State.setUplink_counters (s : State) (u : UplinkId) (x : Uplink) : (s.setUplink u x).counters = s.counters := rfl
@[simp] theorem State.setUplink_tunnels (s : State) (u : UplinkId) (x : Uplink) : (s.setUplink u x).tunnels = s.tunnels := rfl
@[simp] theorem State.setUplink_profiles (s : State) (u : UplinkId) (x : Uplink) : (s.setUplink u x).profiles = s.profiles := rfl
@[simp] theorem State.setUplink_bankMask (s : State) (u : UplinkId) (x : Uplink) : (s.setUplink u x).bankMask = s.bankMask := rfl
@[simp] theorem State.setUplink_segmentMask (s : State) (u : UplinkId) (x : Uplink) : (s.setUplink u x).segmentMask = s.segmentMask := rfl
@[simp] theorem State.setUplink_kduQueue (s : State) (u : UplinkId) (x : Uplink) : (s.setUplink u x).kduQueue = s.kduQueue := rfl
@[simp] theorem State.setUplink_kduFlight (s : State) (u : UplinkId) (x : Uplink) : (s.setUplink u x).kduFlight = s.kduFlight := rfl
@[simp] theorem State.setUplink_draws (s : State) (u : UplinkId) (x : Uplink) : (s.setUplink u x).draws = s.draws := rfl
@[simp] theorem State.setUplink_lfsr (s : State) (u : UplinkId) (x : Uplink) : (s.setUplink u x).lfsr = s.lfsr := rfl
@[simp] theorem State.setUplink_jitterBase (s : State) (u : UplinkId) (x : Uplink) : (s.setUplink u x).jitterBase = s.jitterBase := rfl
@[simp] theorem State.setUplink_jitterRange (s : State) (u : UplinkId) (x : Uplink) : (s.setUplink u x).jitterRange = s.jitterRange := rfl
@[simp] theorem State.setUplink_groupFlags (s : State) (u : UplinkId) (x : Uplink) : (s.setUplink u x).groupFlags = s.groupFlags := rfl
@[simp] theorem State.setUplink_shadowGroupFlags (s : State) (u : UplinkId) (x : Uplink) : (s.setUplink u x).shadowGroupFlags = s.shadowGroupFlags := rfl
@[simp] theorem State.setUplink_waiting (s : State) (u : UplinkId) (x : Uplink) : (s.setUplink u x).waiting = s.waiting := rfl
@[simp] theorem State.setUplink_pointers (s : State) (u : UplinkId) (x : Uplink) : (s.setUplink u x).pointers = s.pointers := rfl
@[simp] theorem State.setUplink_officeQueue (s : State) (u : UplinkId) (x : Uplink) : (s.setUplink u x).officeQueue = s.officeQueue := rfl
@[simp] theorem State.setUplink_officeTx (s : State) (u : UplinkId) (x : Uplink) : (s.setUplink u x).officeTx = s.officeTx := rfl
@[simp] theorem State.setUplink_cascadeUp (s : State) (u : UplinkId) (x : Uplink) : (s.setUplink u x).cascadeUp = s.cascadeUp := rfl
@[simp] theorem State.setUplink_cascadeList (s : State) (u : UplinkId) (x : Uplink) : (s.setUplink u x).cascadeList = s.cascadeList := rfl
@[simp] theorem State.setUplink_cascadeTx (s : State) (u : UplinkId) (x : Uplink) : (s.setUplink u x).cascadeTx = s.cascadeTx := rfl
@[simp] theorem State.setUplink_faults (s : State) (u : UplinkId) (x : Uplink) : (s.setUplink u x).faults = s.faults := rfl
@[simp] theorem State.setUplink_flags (s : State) (u : UplinkId) (x : Uplink) : (s.setUplink u x).flags = s.flags := rfl
@[simp] theorem State.setUplink_overflow (s : State) (u : UplinkId) (x : Uplink) : (s.setUplink u x).overflow = s.overflow := rfl
@[simp] theorem State.setUplink_station (s : State) (u : UplinkId) (x : Uplink) : (s.setUplink u x).station = s.station := rfl
@[simp] theorem State.setUplink_noticeMode (s : State) (u : UplinkId) (x : Uplink) : (s.setUplink u x).noticeMode = s.noticeMode := rfl
@[simp] theorem State.setUplink_reportInterval (s : State) (u : UplinkId) (x : Uplink) : (s.setUplink u x).reportInterval = s.reportInterval := rfl
@[simp] theorem State.setUplink_noticeHoldoff (s : State) (u : UplinkId) (x : Uplink) : (s.setUplink u x).noticeHoldoff = s.noticeHoldoff := rfl
@[simp] theorem State.setUplink_eventMask (s : State) (u : UplinkId) (x : Uplink) : (s.setUplink u x).eventMask = s.eventMask := rfl
@[simp] theorem State.setUplink_reportExpiry (s : State) (u : UplinkId) (x : Uplink) : (s.setUplink u x).reportExpiry = s.reportExpiry := rfl
@[simp] theorem State.setUplink_holdoffExpiry (s : State) (u : UplinkId) (x : Uplink) : (s.setUplink u x).holdoffExpiry = s.holdoffExpiry := rfl
@[simp] theorem State.setUplink_noticePending (s : State) (u : UplinkId) (x : Uplink) : (s.setUplink u x).noticePending = s.noticePending := rfl
@[simp] theorem State.setUplink_indicatorMask (s : State) (u : UplinkId) (x : Uplink) : (s.setUplink u x).indicatorMask = s.indicatorMask := rfl
@[simp] theorem State.setUplink_indicatorHigh (s : State) (u : UplinkId) (x : Uplink) : (s.setUplink u x).indicatorHigh = s.indicatorHigh := rfl
@[simp] theorem State.setUplink_faultInd (s : State) (u : UplinkId) (x : Uplink) : (s.setUplink u x).faultInd = s.faultInd := rfl
@[simp] theorem State.setUplink_label (s : State) (u : UplinkId) (x : Uplink) : (s.setUplink u x).label = s.label := rfl
@[simp] theorem State.setUplink_straps (s : State) (u : UplinkId) (x : Uplink) : (s.setUplink u x).straps = s.straps := rfl
@[simp] theorem State.setUplink_progress (s : State) (u : UplinkId) (x : Uplink) : (s.setUplink u x).progress = s.progress := rfl
@[simp] theorem State.setUplink_transportKey (s : State) (u : UplinkId) (x : Uplink) : (s.setUplink u x).transportKey = s.transportKey := rfl
@[simp] theorem State.setUplink_pending (s : State) (u : UplinkId) (x : Uplink) : (s.setUplink u x).pending = s.pending := rfl

/-! ### `setList` -/

@[simp] theorem State.setList_rstLow (s : State) (g : UplinkId) (l : List TunnelId) : (s.setList g l).rstLow = s.rstLow := rfl
@[simp] theorem State.setList_tick (s : State) (g : UplinkId) (l : List TunnelId) : (s.setList g l).tick = s.tick := rfl
@[simp] theorem State.setList_phase (s : State) (g : UplinkId) (l : List TunnelId) : (s.setList g l).phase = s.phase := rfl
@[simp] theorem State.setList_intervalEnd (s : State) (g : UplinkId) (l : List TunnelId) : (s.setList g l).intervalEnd = s.intervalEnd := rfl
@[simp] theorem State.setList_clock (s : State) (g : UplinkId) (l : List TunnelId) : (s.setList g l).clock = s.clock := rfl
@[simp] theorem State.setList_holding (s : State) (g : UplinkId) (l : List TunnelId) : (s.setList g l).holding = s.holding := rfl
@[simp] theorem State.setList_paused (s : State) (g : UplinkId) (l : List TunnelId) : (s.setList g l).paused = s.paused := rfl
@[simp] theorem State.setList_intervals (s : State) (g : UplinkId) (l : List TunnelId) : (s.setList g l).intervals = s.intervals := rfl
@[simp] theorem State.setList_shadowIntervals (s : State) (g : UplinkId) (l : List TunnelId) : (s.setList g l).shadowIntervals = s.shadowIntervals := rfl
@[simp] theorem State.setList_keyOffset (s : State) (g : UplinkId) (l : List TunnelId) : (s.setList g l).keyOffset = s.keyOffset := rfl
@[simp] theorem State.setList_statusPort (s : State) (g : UplinkId) (l : List TunnelId) : (s.setList g l).statusPort = s.statusPort := rfl
@[simp] theorem State.setList_statusType (s : State) (g : UplinkId) (l : List TunnelId) : (s.setList g l).statusType = s.statusType := rfl
@[simp] theorem State.setList_counters (s : State) (g : UplinkId) (l : List TunnelId) : (s.setList g l).counters = s.counters := rfl
@[simp] theorem State.setList_tunnels (s : State) (g : UplinkId) (l : List TunnelId) : (s.setList g l).tunnels = s.tunnels := rfl
@[simp] theorem State.setList_profiles (s : State) (g : UplinkId) (l : List TunnelId) : (s.setList g l).profiles = s.profiles := rfl
@[simp] theorem State.setList_bankMask (s : State) (g : UplinkId) (l : List TunnelId) : (s.setList g l).bankMask = s.bankMask := rfl
@[simp] theorem State.setList_segmentMask (s : State) (g : UplinkId) (l : List TunnelId) : (s.setList g l).segmentMask = s.segmentMask := rfl
@[simp] theorem State.setList_kduQueue (s : State) (g : UplinkId) (l : List TunnelId) : (s.setList g l).kduQueue = s.kduQueue := rfl
@[simp] theorem State.setList_kduFlight (s : State) (g : UplinkId) (l : List TunnelId) : (s.setList g l).kduFlight = s.kduFlight := rfl
@[simp] theorem State.setList_draws (s : State) (g : UplinkId) (l : List TunnelId) : (s.setList g l).draws = s.draws := rfl
@[simp] theorem State.setList_lfsr (s : State) (g : UplinkId) (l : List TunnelId) : (s.setList g l).lfsr = s.lfsr := rfl
@[simp] theorem State.setList_jitterBase (s : State) (g : UplinkId) (l : List TunnelId) : (s.setList g l).jitterBase = s.jitterBase := rfl
@[simp] theorem State.setList_jitterRange (s : State) (g : UplinkId) (l : List TunnelId) : (s.setList g l).jitterRange = s.jitterRange := rfl
@[simp] theorem State.setList_uplinks (s : State) (g : UplinkId) (l : List TunnelId) : (s.setList g l).uplinks = s.uplinks := rfl
@[simp] theorem State.setList_groupFlags (s : State) (g : UplinkId) (l : List TunnelId) : (s.setList g l).groupFlags = s.groupFlags := rfl
@[simp] theorem State.setList_shadowGroupFlags (s : State) (g : UplinkId) (l : List TunnelId) : (s.setList g l).shadowGroupFlags = s.shadowGroupFlags := rfl
@[simp] theorem State.setList_pointers (s : State) (g : UplinkId) (l : List TunnelId) : (s.setList g l).pointers = s.pointers := rfl
@[simp] theorem State.setList_officeQueue (s : State) (g : UplinkId) (l : List TunnelId) : (s.setList g l).officeQueue = s.officeQueue := rfl
@[simp] theorem State.setList_officeTx (s : State) (g : UplinkId) (l : List TunnelId) : (s.setList g l).officeTx = s.officeTx := rfl
@[simp] theorem State.setList_cascadeUp (s : State) (g : UplinkId) (l : List TunnelId) : (s.setList g l).cascadeUp = s.cascadeUp := rfl
@[simp] theorem State.setList_cascadeList (s : State) (g : UplinkId) (l : List TunnelId) : (s.setList g l).cascadeList = s.cascadeList := rfl
@[simp] theorem State.setList_cascadeTx (s : State) (g : UplinkId) (l : List TunnelId) : (s.setList g l).cascadeTx = s.cascadeTx := rfl
@[simp] theorem State.setList_faults (s : State) (g : UplinkId) (l : List TunnelId) : (s.setList g l).faults = s.faults := rfl
@[simp] theorem State.setList_flags (s : State) (g : UplinkId) (l : List TunnelId) : (s.setList g l).flags = s.flags := rfl
@[simp] theorem State.setList_overflow (s : State) (g : UplinkId) (l : List TunnelId) : (s.setList g l).overflow = s.overflow := rfl
@[simp] theorem State.setList_station (s : State) (g : UplinkId) (l : List TunnelId) : (s.setList g l).station = s.station := rfl
@[simp] theorem State.setList_noticeMode (s : State) (g : UplinkId) (l : List TunnelId) : (s.setList g l).noticeMode = s.noticeMode := rfl
@[simp] theorem State.setList_reportInterval (s : State) (g : UplinkId) (l : List TunnelId) : (s.setList g l).reportInterval = s.reportInterval := rfl
@[simp] theorem State.setList_noticeHoldoff (s : State) (g : UplinkId) (l : List TunnelId) : (s.setList g l).noticeHoldoff = s.noticeHoldoff := rfl
@[simp] theorem State.setList_eventMask (s : State) (g : UplinkId) (l : List TunnelId) : (s.setList g l).eventMask = s.eventMask := rfl
@[simp] theorem State.setList_reportExpiry (s : State) (g : UplinkId) (l : List TunnelId) : (s.setList g l).reportExpiry = s.reportExpiry := rfl
@[simp] theorem State.setList_holdoffExpiry (s : State) (g : UplinkId) (l : List TunnelId) : (s.setList g l).holdoffExpiry = s.holdoffExpiry := rfl
@[simp] theorem State.setList_noticePending (s : State) (g : UplinkId) (l : List TunnelId) : (s.setList g l).noticePending = s.noticePending := rfl
@[simp] theorem State.setList_indicatorMask (s : State) (g : UplinkId) (l : List TunnelId) : (s.setList g l).indicatorMask = s.indicatorMask := rfl
@[simp] theorem State.setList_indicatorHigh (s : State) (g : UplinkId) (l : List TunnelId) : (s.setList g l).indicatorHigh = s.indicatorHigh := rfl
@[simp] theorem State.setList_faultInd (s : State) (g : UplinkId) (l : List TunnelId) : (s.setList g l).faultInd = s.faultInd := rfl
@[simp] theorem State.setList_label (s : State) (g : UplinkId) (l : List TunnelId) : (s.setList g l).label = s.label := rfl
@[simp] theorem State.setList_straps (s : State) (g : UplinkId) (l : List TunnelId) : (s.setList g l).straps = s.straps := rfl
@[simp] theorem State.setList_progress (s : State) (g : UplinkId) (l : List TunnelId) : (s.setList g l).progress = s.progress := rfl
@[simp] theorem State.setList_transportKey (s : State) (g : UplinkId) (l : List TunnelId) : (s.setList g l).transportKey = s.transportKey := rfl
@[simp] theorem State.setList_pending (s : State) (g : UplinkId) (l : List TunnelId) : (s.setList g l).pending = s.pending := rfl

/-! ### `point` -/

@[simp] theorem State.point_rstLow (s : State) (g u : UplinkId) : (s.point g u).rstLow = s.rstLow := rfl
@[simp] theorem State.point_tick (s : State) (g u : UplinkId) : (s.point g u).tick = s.tick := rfl
@[simp] theorem State.point_phase (s : State) (g u : UplinkId) : (s.point g u).phase = s.phase := rfl
@[simp] theorem State.point_intervalEnd (s : State) (g u : UplinkId) : (s.point g u).intervalEnd = s.intervalEnd := rfl
@[simp] theorem State.point_clock (s : State) (g u : UplinkId) : (s.point g u).clock = s.clock := rfl
@[simp] theorem State.point_holding (s : State) (g u : UplinkId) : (s.point g u).holding = s.holding := rfl
@[simp] theorem State.point_paused (s : State) (g u : UplinkId) : (s.point g u).paused = s.paused := rfl
@[simp] theorem State.point_intervals (s : State) (g u : UplinkId) : (s.point g u).intervals = s.intervals := rfl
@[simp] theorem State.point_shadowIntervals (s : State) (g u : UplinkId) : (s.point g u).shadowIntervals = s.shadowIntervals := rfl
@[simp] theorem State.point_keyOffset (s : State) (g u : UplinkId) : (s.point g u).keyOffset = s.keyOffset := rfl
@[simp] theorem State.point_statusPort (s : State) (g u : UplinkId) : (s.point g u).statusPort = s.statusPort := rfl
@[simp] theorem State.point_statusType (s : State) (g u : UplinkId) : (s.point g u).statusType = s.statusType := rfl
@[simp] theorem State.point_counters (s : State) (g u : UplinkId) : (s.point g u).counters = s.counters := rfl
@[simp] theorem State.point_tunnels (s : State) (g u : UplinkId) : (s.point g u).tunnels = s.tunnels := rfl
@[simp] theorem State.point_profiles (s : State) (g u : UplinkId) : (s.point g u).profiles = s.profiles := rfl
@[simp] theorem State.point_bankMask (s : State) (g u : UplinkId) : (s.point g u).bankMask = s.bankMask := rfl
@[simp] theorem State.point_segmentMask (s : State) (g u : UplinkId) : (s.point g u).segmentMask = s.segmentMask := rfl
@[simp] theorem State.point_kduQueue (s : State) (g u : UplinkId) : (s.point g u).kduQueue = s.kduQueue := rfl
@[simp] theorem State.point_kduFlight (s : State) (g u : UplinkId) : (s.point g u).kduFlight = s.kduFlight := rfl
@[simp] theorem State.point_draws (s : State) (g u : UplinkId) : (s.point g u).draws = s.draws := rfl
@[simp] theorem State.point_lfsr (s : State) (g u : UplinkId) : (s.point g u).lfsr = s.lfsr := rfl
@[simp] theorem State.point_jitterBase (s : State) (g u : UplinkId) : (s.point g u).jitterBase = s.jitterBase := rfl
@[simp] theorem State.point_jitterRange (s : State) (g u : UplinkId) : (s.point g u).jitterRange = s.jitterRange := rfl
@[simp] theorem State.point_uplinks (s : State) (g u : UplinkId) : (s.point g u).uplinks = s.uplinks := rfl
@[simp] theorem State.point_groupFlags (s : State) (g u : UplinkId) : (s.point g u).groupFlags = s.groupFlags := rfl
@[simp] theorem State.point_shadowGroupFlags (s : State) (g u : UplinkId) : (s.point g u).shadowGroupFlags = s.shadowGroupFlags := rfl
@[simp] theorem State.point_waiting (s : State) (g u : UplinkId) : (s.point g u).waiting = s.waiting := rfl
@[simp] theorem State.point_officeQueue (s : State) (g u : UplinkId) : (s.point g u).officeQueue = s.officeQueue := rfl
@[simp] theorem State.point_officeTx (s : State) (g u : UplinkId) : (s.point g u).officeTx = s.officeTx := rfl
@[simp] theorem State.point_cascadeUp (s : State) (g u : UplinkId) : (s.point g u).cascadeUp = s.cascadeUp := rfl
@[simp] theorem State.point_cascadeList (s : State) (g u : UplinkId) : (s.point g u).cascadeList = s.cascadeList := rfl
@[simp] theorem State.point_cascadeTx (s : State) (g u : UplinkId) : (s.point g u).cascadeTx = s.cascadeTx := rfl
@[simp] theorem State.point_faults (s : State) (g u : UplinkId) : (s.point g u).faults = s.faults := rfl
@[simp] theorem State.point_flags (s : State) (g u : UplinkId) : (s.point g u).flags = s.flags := rfl
@[simp] theorem State.point_overflow (s : State) (g u : UplinkId) : (s.point g u).overflow = s.overflow := rfl
@[simp] theorem State.point_station (s : State) (g u : UplinkId) : (s.point g u).station = s.station := rfl
@[simp] theorem State.point_noticeMode (s : State) (g u : UplinkId) : (s.point g u).noticeMode = s.noticeMode := rfl
@[simp] theorem State.point_reportInterval (s : State) (g u : UplinkId) : (s.point g u).reportInterval = s.reportInterval := rfl
@[simp] theorem State.point_noticeHoldoff (s : State) (g u : UplinkId) : (s.point g u).noticeHoldoff = s.noticeHoldoff := rfl
@[simp] theorem State.point_eventMask (s : State) (g u : UplinkId) : (s.point g u).eventMask = s.eventMask := rfl
@[simp] theorem State.point_reportExpiry (s : State) (g u : UplinkId) : (s.point g u).reportExpiry = s.reportExpiry := rfl
@[simp] theorem State.point_holdoffExpiry (s : State) (g u : UplinkId) : (s.point g u).holdoffExpiry = s.holdoffExpiry := rfl
@[simp] theorem State.point_noticePending (s : State) (g u : UplinkId) : (s.point g u).noticePending = s.noticePending := rfl
@[simp] theorem State.point_indicatorMask (s : State) (g u : UplinkId) : (s.point g u).indicatorMask = s.indicatorMask := rfl
@[simp] theorem State.point_indicatorHigh (s : State) (g u : UplinkId) : (s.point g u).indicatorHigh = s.indicatorHigh := rfl
@[simp] theorem State.point_faultInd (s : State) (g u : UplinkId) : (s.point g u).faultInd = s.faultInd := rfl
@[simp] theorem State.point_label (s : State) (g u : UplinkId) : (s.point g u).label = s.label := rfl
@[simp] theorem State.point_straps (s : State) (g u : UplinkId) : (s.point g u).straps = s.straps := rfl
@[simp] theorem State.point_progress (s : State) (g u : UplinkId) : (s.point g u).progress = s.progress := rfl
@[simp] theorem State.point_transportKey (s : State) (g u : UplinkId) : (s.point g u).transportKey = s.transportKey := rfl
@[simp] theorem State.point_pending (s : State) (g u : UplinkId) : (s.point g u).pending = s.pending := rfl

/-! ### `modCounters` -/

@[simp] theorem State.modCounters_rstLow (s : State) (f : DeviceCounters → DeviceCounters) : (s.modCounters f).rstLow = s.rstLow := rfl
@[simp] theorem State.modCounters_tick (s : State) (f : DeviceCounters → DeviceCounters) : (s.modCounters f).tick = s.tick := rfl
@[simp] theorem State.modCounters_phase (s : State) (f : DeviceCounters → DeviceCounters) : (s.modCounters f).phase = s.phase := rfl
@[simp] theorem State.modCounters_intervalEnd (s : State) (f : DeviceCounters → DeviceCounters) : (s.modCounters f).intervalEnd = s.intervalEnd := rfl
@[simp] theorem State.modCounters_clock (s : State) (f : DeviceCounters → DeviceCounters) : (s.modCounters f).clock = s.clock := rfl
@[simp] theorem State.modCounters_holding (s : State) (f : DeviceCounters → DeviceCounters) : (s.modCounters f).holding = s.holding := rfl
@[simp] theorem State.modCounters_paused (s : State) (f : DeviceCounters → DeviceCounters) : (s.modCounters f).paused = s.paused := rfl
@[simp] theorem State.modCounters_intervals (s : State) (f : DeviceCounters → DeviceCounters) : (s.modCounters f).intervals = s.intervals := rfl
@[simp] theorem State.modCounters_shadowIntervals (s : State) (f : DeviceCounters → DeviceCounters) : (s.modCounters f).shadowIntervals = s.shadowIntervals := rfl
@[simp] theorem State.modCounters_keyOffset (s : State) (f : DeviceCounters → DeviceCounters) : (s.modCounters f).keyOffset = s.keyOffset := rfl
@[simp] theorem State.modCounters_statusPort (s : State) (f : DeviceCounters → DeviceCounters) : (s.modCounters f).statusPort = s.statusPort := rfl
@[simp] theorem State.modCounters_statusType (s : State) (f : DeviceCounters → DeviceCounters) : (s.modCounters f).statusType = s.statusType := rfl
@[simp] theorem State.modCounters_tunnels (s : State) (f : DeviceCounters → DeviceCounters) : (s.modCounters f).tunnels = s.tunnels := rfl
@[simp] theorem State.modCounters_profiles (s : State) (f : DeviceCounters → DeviceCounters) : (s.modCounters f).profiles = s.profiles := rfl
@[simp] theorem State.modCounters_bankMask (s : State) (f : DeviceCounters → DeviceCounters) : (s.modCounters f).bankMask = s.bankMask := rfl
@[simp] theorem State.modCounters_segmentMask (s : State) (f : DeviceCounters → DeviceCounters) : (s.modCounters f).segmentMask = s.segmentMask := rfl
@[simp] theorem State.modCounters_kduQueue (s : State) (f : DeviceCounters → DeviceCounters) : (s.modCounters f).kduQueue = s.kduQueue := rfl
@[simp] theorem State.modCounters_kduFlight (s : State) (f : DeviceCounters → DeviceCounters) : (s.modCounters f).kduFlight = s.kduFlight := rfl
@[simp] theorem State.modCounters_draws (s : State) (f : DeviceCounters → DeviceCounters) : (s.modCounters f).draws = s.draws := rfl
@[simp] theorem State.modCounters_lfsr (s : State) (f : DeviceCounters → DeviceCounters) : (s.modCounters f).lfsr = s.lfsr := rfl
@[simp] theorem State.modCounters_jitterBase (s : State) (f : DeviceCounters → DeviceCounters) : (s.modCounters f).jitterBase = s.jitterBase := rfl
@[simp] theorem State.modCounters_jitterRange (s : State) (f : DeviceCounters → DeviceCounters) : (s.modCounters f).jitterRange = s.jitterRange := rfl
@[simp] theorem State.modCounters_uplinks (s : State) (f : DeviceCounters → DeviceCounters) : (s.modCounters f).uplinks = s.uplinks := rfl
@[simp] theorem State.modCounters_groupFlags (s : State) (f : DeviceCounters → DeviceCounters) : (s.modCounters f).groupFlags = s.groupFlags := rfl
@[simp] theorem State.modCounters_shadowGroupFlags (s : State) (f : DeviceCounters → DeviceCounters) : (s.modCounters f).shadowGroupFlags = s.shadowGroupFlags := rfl
@[simp] theorem State.modCounters_waiting (s : State) (f : DeviceCounters → DeviceCounters) : (s.modCounters f).waiting = s.waiting := rfl
@[simp] theorem State.modCounters_pointers (s : State) (f : DeviceCounters → DeviceCounters) : (s.modCounters f).pointers = s.pointers := rfl
@[simp] theorem State.modCounters_officeQueue (s : State) (f : DeviceCounters → DeviceCounters) : (s.modCounters f).officeQueue = s.officeQueue := rfl
@[simp] theorem State.modCounters_officeTx (s : State) (f : DeviceCounters → DeviceCounters) : (s.modCounters f).officeTx = s.officeTx := rfl
@[simp] theorem State.modCounters_cascadeUp (s : State) (f : DeviceCounters → DeviceCounters) : (s.modCounters f).cascadeUp = s.cascadeUp := rfl
@[simp] theorem State.modCounters_cascadeList (s : State) (f : DeviceCounters → DeviceCounters) : (s.modCounters f).cascadeList = s.cascadeList := rfl
@[simp] theorem State.modCounters_cascadeTx (s : State) (f : DeviceCounters → DeviceCounters) : (s.modCounters f).cascadeTx = s.cascadeTx := rfl
@[simp] theorem State.modCounters_faults (s : State) (f : DeviceCounters → DeviceCounters) : (s.modCounters f).faults = s.faults := rfl
@[simp] theorem State.modCounters_flags (s : State) (f : DeviceCounters → DeviceCounters) : (s.modCounters f).flags = s.flags := rfl
@[simp] theorem State.modCounters_overflow (s : State) (f : DeviceCounters → DeviceCounters) : (s.modCounters f).overflow = s.overflow := rfl
@[simp] theorem State.modCounters_station (s : State) (f : DeviceCounters → DeviceCounters) : (s.modCounters f).station = s.station := rfl
@[simp] theorem State.modCounters_noticeMode (s : State) (f : DeviceCounters → DeviceCounters) : (s.modCounters f).noticeMode = s.noticeMode := rfl
@[simp] theorem State.modCounters_reportInterval (s : State) (f : DeviceCounters → DeviceCounters) : (s.modCounters f).reportInterval = s.reportInterval := rfl
@[simp] theorem State.modCounters_noticeHoldoff (s : State) (f : DeviceCounters → DeviceCounters) : (s.modCounters f).noticeHoldoff = s.noticeHoldoff := rfl
@[simp] theorem State.modCounters_eventMask (s : State) (f : DeviceCounters → DeviceCounters) : (s.modCounters f).eventMask = s.eventMask := rfl
@[simp] theorem State.modCounters_reportExpiry (s : State) (f : DeviceCounters → DeviceCounters) : (s.modCounters f).reportExpiry = s.reportExpiry := rfl
@[simp] theorem State.modCounters_holdoffExpiry (s : State) (f : DeviceCounters → DeviceCounters) : (s.modCounters f).holdoffExpiry = s.holdoffExpiry := rfl
@[simp] theorem State.modCounters_noticePending (s : State) (f : DeviceCounters → DeviceCounters) : (s.modCounters f).noticePending = s.noticePending := rfl
@[simp] theorem State.modCounters_indicatorMask (s : State) (f : DeviceCounters → DeviceCounters) : (s.modCounters f).indicatorMask = s.indicatorMask := rfl
@[simp] theorem State.modCounters_indicatorHigh (s : State) (f : DeviceCounters → DeviceCounters) : (s.modCounters f).indicatorHigh = s.indicatorHigh := rfl
@[simp] theorem State.modCounters_faultInd (s : State) (f : DeviceCounters → DeviceCounters) : (s.modCounters f).faultInd = s.faultInd := rfl
@[simp] theorem State.modCounters_label (s : State) (f : DeviceCounters → DeviceCounters) : (s.modCounters f).label = s.label := rfl
@[simp] theorem State.modCounters_straps (s : State) (f : DeviceCounters → DeviceCounters) : (s.modCounters f).straps = s.straps := rfl
@[simp] theorem State.modCounters_progress (s : State) (f : DeviceCounters → DeviceCounters) : (s.modCounters f).progress = s.progress := rfl
@[simp] theorem State.modCounters_transportKey (s : State) (f : DeviceCounters → DeviceCounters) : (s.modCounters f).transportKey = s.transportKey := rfl
@[simp] theorem State.modCounters_pending (s : State) (f : DeviceCounters → DeviceCounters) : (s.modCounters f).pending = s.pending := rfl

/-! ### `setFlags` -/

@[simp] theorem State.setFlags_rstLow (s : State) (f : BitVec 11) : (s.setFlags f).rstLow = s.rstLow := rfl
@[simp] theorem State.setFlags_tick (s : State) (f : BitVec 11) : (s.setFlags f).tick = s.tick := rfl
@[simp] theorem State.setFlags_phase (s : State) (f : BitVec 11) : (s.setFlags f).phase = s.phase := rfl
@[simp] theorem State.setFlags_intervalEnd (s : State) (f : BitVec 11) : (s.setFlags f).intervalEnd = s.intervalEnd := rfl
@[simp] theorem State.setFlags_clock (s : State) (f : BitVec 11) : (s.setFlags f).clock = s.clock := rfl
@[simp] theorem State.setFlags_holding (s : State) (f : BitVec 11) : (s.setFlags f).holding = s.holding := rfl
@[simp] theorem State.setFlags_paused (s : State) (f : BitVec 11) : (s.setFlags f).paused = s.paused := rfl
@[simp] theorem State.setFlags_intervals (s : State) (f : BitVec 11) : (s.setFlags f).intervals = s.intervals := rfl
@[simp] theorem State.setFlags_shadowIntervals (s : State) (f : BitVec 11) : (s.setFlags f).shadowIntervals = s.shadowIntervals := rfl
@[simp] theorem State.setFlags_keyOffset (s : State) (f : BitVec 11) : (s.setFlags f).keyOffset = s.keyOffset := rfl
@[simp] theorem State.setFlags_statusPort (s : State) (f : BitVec 11) : (s.setFlags f).statusPort = s.statusPort := rfl
@[simp] theorem State.setFlags_statusType (s : State) (f : BitVec 11) : (s.setFlags f).statusType = s.statusType := rfl
@[simp] theorem State.setFlags_counters (s : State) (f : BitVec 11) : (s.setFlags f).counters = s.counters := rfl
@[simp] theorem State.setFlags_tunnels (s : State) (f : BitVec 11) : (s.setFlags f).tunnels = s.tunnels := rfl
@[simp] theorem State.setFlags_profiles (s : State) (f : BitVec 11) : (s.setFlags f).profiles = s.profiles := rfl
@[simp] theorem State.setFlags_bankMask (s : State) (f : BitVec 11) : (s.setFlags f).bankMask = s.bankMask := rfl
@[simp] theorem State.setFlags_segmentMask (s : State) (f : BitVec 11) : (s.setFlags f).segmentMask = s.segmentMask := rfl
@[simp] theorem State.setFlags_kduQueue (s : State) (f : BitVec 11) : (s.setFlags f).kduQueue = s.kduQueue := rfl
@[simp] theorem State.setFlags_kduFlight (s : State) (f : BitVec 11) : (s.setFlags f).kduFlight = s.kduFlight := rfl
@[simp] theorem State.setFlags_draws (s : State) (f : BitVec 11) : (s.setFlags f).draws = s.draws := rfl
@[simp] theorem State.setFlags_lfsr (s : State) (f : BitVec 11) : (s.setFlags f).lfsr = s.lfsr := rfl
@[simp] theorem State.setFlags_jitterBase (s : State) (f : BitVec 11) : (s.setFlags f).jitterBase = s.jitterBase := rfl
@[simp] theorem State.setFlags_jitterRange (s : State) (f : BitVec 11) : (s.setFlags f).jitterRange = s.jitterRange := rfl
@[simp] theorem State.setFlags_uplinks (s : State) (f : BitVec 11) : (s.setFlags f).uplinks = s.uplinks := rfl
@[simp] theorem State.setFlags_groupFlags (s : State) (f : BitVec 11) : (s.setFlags f).groupFlags = s.groupFlags := rfl
@[simp] theorem State.setFlags_shadowGroupFlags (s : State) (f : BitVec 11) : (s.setFlags f).shadowGroupFlags = s.shadowGroupFlags := rfl
@[simp] theorem State.setFlags_waiting (s : State) (f : BitVec 11) : (s.setFlags f).waiting = s.waiting := rfl
@[simp] theorem State.setFlags_pointers (s : State) (f : BitVec 11) : (s.setFlags f).pointers = s.pointers := rfl
@[simp] theorem State.setFlags_officeQueue (s : State) (f : BitVec 11) : (s.setFlags f).officeQueue = s.officeQueue := rfl
@[simp] theorem State.setFlags_officeTx (s : State) (f : BitVec 11) : (s.setFlags f).officeTx = s.officeTx := rfl
@[simp] theorem State.setFlags_cascadeUp (s : State) (f : BitVec 11) : (s.setFlags f).cascadeUp = s.cascadeUp := rfl
@[simp] theorem State.setFlags_cascadeList (s : State) (f : BitVec 11) : (s.setFlags f).cascadeList = s.cascadeList := rfl
@[simp] theorem State.setFlags_cascadeTx (s : State) (f : BitVec 11) : (s.setFlags f).cascadeTx = s.cascadeTx := rfl
@[simp] theorem State.setFlags_faults (s : State) (f : BitVec 11) : (s.setFlags f).faults = s.faults := rfl
@[simp] theorem State.setFlags_overflow (s : State) (f : BitVec 11) : (s.setFlags f).overflow = s.overflow := rfl
@[simp] theorem State.setFlags_station (s : State) (f : BitVec 11) : (s.setFlags f).station = s.station := rfl
@[simp] theorem State.setFlags_noticeMode (s : State) (f : BitVec 11) : (s.setFlags f).noticeMode = s.noticeMode := rfl
@[simp] theorem State.setFlags_reportInterval (s : State) (f : BitVec 11) : (s.setFlags f).reportInterval = s.reportInterval := rfl
@[simp] theorem State.setFlags_noticeHoldoff (s : State) (f : BitVec 11) : (s.setFlags f).noticeHoldoff = s.noticeHoldoff := rfl
@[simp] theorem State.setFlags_eventMask (s : State) (f : BitVec 11) : (s.setFlags f).eventMask = s.eventMask := rfl
@[simp] theorem State.setFlags_reportExpiry (s : State) (f : BitVec 11) : (s.setFlags f).reportExpiry = s.reportExpiry := rfl
@[simp] theorem State.setFlags_holdoffExpiry (s : State) (f : BitVec 11) : (s.setFlags f).holdoffExpiry = s.holdoffExpiry := rfl
@[simp] theorem State.setFlags_noticePending (s : State) (f : BitVec 11) : (s.setFlags f).noticePending = s.noticePending := rfl
@[simp] theorem State.setFlags_indicatorMask (s : State) (f : BitVec 11) : (s.setFlags f).indicatorMask = s.indicatorMask := rfl
@[simp] theorem State.setFlags_indicatorHigh (s : State) (f : BitVec 11) : (s.setFlags f).indicatorHigh = s.indicatorHigh := rfl
@[simp] theorem State.setFlags_label (s : State) (f : BitVec 11) : (s.setFlags f).label = s.label := rfl
@[simp] theorem State.setFlags_straps (s : State) (f : BitVec 11) : (s.setFlags f).straps = s.straps := rfl
@[simp] theorem State.setFlags_progress (s : State) (f : BitVec 11) : (s.setFlags f).progress = s.progress := rfl
@[simp] theorem State.setFlags_transportKey (s : State) (f : BitVec 11) : (s.setFlags f).transportKey = s.transportKey := rfl
@[simp] theorem State.setFlags_pending (s : State) (f : BitVec 11) : (s.setFlags f).pending = s.pending := rfl

/-! ### `officePush` -/

@[simp] theorem State.officePush_rstLow (s : State) (k : OfficeKind) (f : EthFrame) : (s.officePush k f).rstLow = s.rstLow := rfl
@[simp] theorem State.officePush_tick (s : State) (k : OfficeKind) (f : EthFrame) : (s.officePush k f).tick = s.tick := rfl
@[simp] theorem State.officePush_phase (s : State) (k : OfficeKind) (f : EthFrame) : (s.officePush k f).phase = s.phase := rfl
@[simp] theorem State.officePush_intervalEnd (s : State) (k : OfficeKind) (f : EthFrame) : (s.officePush k f).intervalEnd = s.intervalEnd := rfl
@[simp] theorem State.officePush_clock (s : State) (k : OfficeKind) (f : EthFrame) : (s.officePush k f).clock = s.clock := rfl
@[simp] theorem State.officePush_holding (s : State) (k : OfficeKind) (f : EthFrame) : (s.officePush k f).holding = s.holding := rfl
@[simp] theorem State.officePush_paused (s : State) (k : OfficeKind) (f : EthFrame) : (s.officePush k f).paused = s.paused := rfl
@[simp] theorem State.officePush_intervals (s : State) (k : OfficeKind) (f : EthFrame) : (s.officePush k f).intervals = s.intervals := rfl
@[simp] theorem State.officePush_shadowIntervals (s : State) (k : OfficeKind) (f : EthFrame) : (s.officePush k f).shadowIntervals = s.shadowIntervals := rfl
@[simp] theorem State.officePush_keyOffset (s : State) (k : OfficeKind) (f : EthFrame) : (s.officePush k f).keyOffset = s.keyOffset := rfl
@[simp] theorem State.officePush_statusPort (s : State) (k : OfficeKind) (f : EthFrame) : (s.officePush k f).statusPort = s.statusPort := rfl
@[simp] theorem State.officePush_statusType (s : State) (k : OfficeKind) (f : EthFrame) : (s.officePush k f).statusType = s.statusType := rfl
@[simp] theorem State.officePush_counters (s : State) (k : OfficeKind) (f : EthFrame) : (s.officePush k f).counters = s.counters := rfl
@[simp] theorem State.officePush_tunnels (s : State) (k : OfficeKind) (f : EthFrame) : (s.officePush k f).tunnels = s.tunnels := rfl
@[simp] theorem State.officePush_profiles (s : State) (k : OfficeKind) (f : EthFrame) : (s.officePush k f).profiles = s.profiles := rfl
@[simp] theorem State.officePush_bankMask (s : State) (k : OfficeKind) (f : EthFrame) : (s.officePush k f).bankMask = s.bankMask := rfl
@[simp] theorem State.officePush_segmentMask (s : State) (k : OfficeKind) (f : EthFrame) : (s.officePush k f).segmentMask = s.segmentMask := rfl
@[simp] theorem State.officePush_kduQueue (s : State) (k : OfficeKind) (f : EthFrame) : (s.officePush k f).kduQueue = s.kduQueue := rfl
@[simp] theorem State.officePush_kduFlight (s : State) (k : OfficeKind) (f : EthFrame) : (s.officePush k f).kduFlight = s.kduFlight := rfl
@[simp] theorem State.officePush_draws (s : State) (k : OfficeKind) (f : EthFrame) : (s.officePush k f).draws = s.draws := rfl
@[simp] theorem State.officePush_lfsr (s : State) (k : OfficeKind) (f : EthFrame) : (s.officePush k f).lfsr = s.lfsr := rfl
@[simp] theorem State.officePush_jitterBase (s : State) (k : OfficeKind) (f : EthFrame) : (s.officePush k f).jitterBase = s.jitterBase := rfl
@[simp] theorem State.officePush_jitterRange (s : State) (k : OfficeKind) (f : EthFrame) : (s.officePush k f).jitterRange = s.jitterRange := rfl
@[simp] theorem State.officePush_uplinks (s : State) (k : OfficeKind) (f : EthFrame) : (s.officePush k f).uplinks = s.uplinks := rfl
@[simp] theorem State.officePush_groupFlags (s : State) (k : OfficeKind) (f : EthFrame) : (s.officePush k f).groupFlags = s.groupFlags := rfl
@[simp] theorem State.officePush_shadowGroupFlags (s : State) (k : OfficeKind) (f : EthFrame) : (s.officePush k f).shadowGroupFlags = s.shadowGroupFlags := rfl
@[simp] theorem State.officePush_waiting (s : State) (k : OfficeKind) (f : EthFrame) : (s.officePush k f).waiting = s.waiting := rfl
@[simp] theorem State.officePush_pointers (s : State) (k : OfficeKind) (f : EthFrame) : (s.officePush k f).pointers = s.pointers := rfl
@[simp] theorem State.officePush_officeTx (s : State) (k : OfficeKind) (f : EthFrame) : (s.officePush k f).officeTx = s.officeTx := rfl
@[simp] theorem State.officePush_cascadeUp (s : State) (k : OfficeKind) (f : EthFrame) : (s.officePush k f).cascadeUp = s.cascadeUp := rfl
@[simp] theorem State.officePush_cascadeList (s : State) (k : OfficeKind) (f : EthFrame) : (s.officePush k f).cascadeList = s.cascadeList := rfl
@[simp] theorem State.officePush_cascadeTx (s : State) (k : OfficeKind) (f : EthFrame) : (s.officePush k f).cascadeTx = s.cascadeTx := rfl
@[simp] theorem State.officePush_faults (s : State) (k : OfficeKind) (f : EthFrame) : (s.officePush k f).faults = s.faults := rfl
@[simp] theorem State.officePush_flags (s : State) (k : OfficeKind) (f : EthFrame) : (s.officePush k f).flags = s.flags := rfl
@[simp] theorem State.officePush_overflow (s : State) (k : OfficeKind) (f : EthFrame) : (s.officePush k f).overflow = s.overflow := rfl
@[simp] theorem State.officePush_station (s : State) (k : OfficeKind) (f : EthFrame) : (s.officePush k f).station = s.station := rfl
@[simp] theorem State.officePush_noticeMode (s : State) (k : OfficeKind) (f : EthFrame) : (s.officePush k f).noticeMode = s.noticeMode := rfl
@[simp] theorem State.officePush_reportInterval (s : State) (k : OfficeKind) (f : EthFrame) : (s.officePush k f).reportInterval = s.reportInterval := rfl
@[simp] theorem State.officePush_noticeHoldoff (s : State) (k : OfficeKind) (f : EthFrame) : (s.officePush k f).noticeHoldoff = s.noticeHoldoff := rfl
@[simp] theorem State.officePush_eventMask (s : State) (k : OfficeKind) (f : EthFrame) : (s.officePush k f).eventMask = s.eventMask := rfl
@[simp] theorem State.officePush_reportExpiry (s : State) (k : OfficeKind) (f : EthFrame) : (s.officePush k f).reportExpiry = s.reportExpiry := rfl
@[simp] theorem State.officePush_holdoffExpiry (s : State) (k : OfficeKind) (f : EthFrame) : (s.officePush k f).holdoffExpiry = s.holdoffExpiry := rfl
@[simp] theorem State.officePush_noticePending (s : State) (k : OfficeKind) (f : EthFrame) : (s.officePush k f).noticePending = s.noticePending := rfl
@[simp] theorem State.officePush_indicatorMask (s : State) (k : OfficeKind) (f : EthFrame) : (s.officePush k f).indicatorMask = s.indicatorMask := rfl
@[simp] theorem State.officePush_indicatorHigh (s : State) (k : OfficeKind) (f : EthFrame) : (s.officePush k f).indicatorHigh = s.indicatorHigh := rfl
@[simp] theorem State.officePush_faultInd (s : State) (k : OfficeKind) (f : EthFrame) : (s.officePush k f).faultInd = s.faultInd := rfl
@[simp] theorem State.officePush_label (s : State) (k : OfficeKind) (f : EthFrame) : (s.officePush k f).label = s.label := rfl
@[simp] theorem State.officePush_straps (s : State) (k : OfficeKind) (f : EthFrame) : (s.officePush k f).straps = s.straps := rfl
@[simp] theorem State.officePush_progress (s : State) (k : OfficeKind) (f : EthFrame) : (s.officePush k f).progress = s.progress := rfl
@[simp] theorem State.officePush_transportKey (s : State) (k : OfficeKind) (f : EthFrame) : (s.officePush k f).transportKey = s.transportKey := rfl
@[simp] theorem State.officePush_pending (s : State) (k : OfficeKind) (f : EthFrame) : (s.officePush k f).pending = s.pending := rfl

/-! ### `clockAt` -/

@[simp] theorem State.clockAt_rstLow (s : State) (sub : Fin 100) : (s.clockAt sub).rstLow = s.rstLow := rfl
@[simp] theorem State.clockAt_tick (s : State) (sub : Fin 100) : (s.clockAt sub).tick = s.tick := rfl
@[simp] theorem State.clockAt_phase (s : State) (sub : Fin 100) : (s.clockAt sub).phase = s.phase := rfl
@[simp] theorem State.clockAt_intervalEnd (s : State) (sub : Fin 100) : (s.clockAt sub).intervalEnd = s.intervalEnd := rfl
@[simp] theorem State.clockAt_holding (s : State) (sub : Fin 100) : (s.clockAt sub).holding = s.holding := rfl
@[simp] theorem State.clockAt_paused (s : State) (sub : Fin 100) : (s.clockAt sub).paused = s.paused := rfl
@[simp] theorem State.clockAt_intervals (s : State) (sub : Fin 100) : (s.clockAt sub).intervals = s.intervals := rfl
@[simp] theorem State.clockAt_shadowIntervals (s : State) (sub : Fin 100) : (s.clockAt sub).shadowIntervals = s.shadowIntervals := rfl
@[simp] theorem State.clockAt_keyOffset (s : State) (sub : Fin 100) : (s.clockAt sub).keyOffset = s.keyOffset := rfl
@[simp] theorem State.clockAt_statusPort (s : State) (sub : Fin 100) : (s.clockAt sub).statusPort = s.statusPort := rfl
@[simp] theorem State.clockAt_statusType (s : State) (sub : Fin 100) : (s.clockAt sub).statusType = s.statusType := rfl
@[simp] theorem State.clockAt_counters (s : State) (sub : Fin 100) : (s.clockAt sub).counters = s.counters := rfl
@[simp] theorem State.clockAt_tunnels (s : State) (sub : Fin 100) : (s.clockAt sub).tunnels = s.tunnels := rfl
@[simp] theorem State.clockAt_profiles (s : State) (sub : Fin 100) : (s.clockAt sub).profiles = s.profiles := rfl
@[simp] theorem State.clockAt_bankMask (s : State) (sub : Fin 100) : (s.clockAt sub).bankMask = s.bankMask := rfl
@[simp] theorem State.clockAt_segmentMask (s : State) (sub : Fin 100) : (s.clockAt sub).segmentMask = s.segmentMask := rfl
@[simp] theorem State.clockAt_kduQueue (s : State) (sub : Fin 100) : (s.clockAt sub).kduQueue = s.kduQueue := rfl
@[simp] theorem State.clockAt_kduFlight (s : State) (sub : Fin 100) : (s.clockAt sub).kduFlight = s.kduFlight := rfl
@[simp] theorem State.clockAt_draws (s : State) (sub : Fin 100) : (s.clockAt sub).draws = s.draws := rfl
@[simp] theorem State.clockAt_lfsr (s : State) (sub : Fin 100) : (s.clockAt sub).lfsr = s.lfsr := rfl
@[simp] theorem State.clockAt_jitterBase (s : State) (sub : Fin 100) : (s.clockAt sub).jitterBase = s.jitterBase := rfl
@[simp] theorem State.clockAt_jitterRange (s : State) (sub : Fin 100) : (s.clockAt sub).jitterRange = s.jitterRange := rfl
@[simp] theorem State.clockAt_uplinks (s : State) (sub : Fin 100) : (s.clockAt sub).uplinks = s.uplinks := rfl
@[simp] theorem State.clockAt_groupFlags (s : State) (sub : Fin 100) : (s.clockAt sub).groupFlags = s.groupFlags := rfl
@[simp] theorem State.clockAt_shadowGroupFlags (s : State) (sub : Fin 100) : (s.clockAt sub).shadowGroupFlags = s.shadowGroupFlags := rfl
@[simp] theorem State.clockAt_waiting (s : State) (sub : Fin 100) : (s.clockAt sub).waiting = s.waiting := rfl
@[simp] theorem State.clockAt_pointers (s : State) (sub : Fin 100) : (s.clockAt sub).pointers = s.pointers := rfl
@[simp] theorem State.clockAt_officeQueue (s : State) (sub : Fin 100) : (s.clockAt sub).officeQueue = s.officeQueue := rfl
@[simp] theorem State.clockAt_officeTx (s : State) (sub : Fin 100) : (s.clockAt sub).officeTx = s.officeTx := rfl
@[simp] theorem State.clockAt_cascadeUp (s : State) (sub : Fin 100) : (s.clockAt sub).cascadeUp = s.cascadeUp := rfl
@[simp] theorem State.clockAt_cascadeList (s : State) (sub : Fin 100) : (s.clockAt sub).cascadeList = s.cascadeList := rfl
@[simp] theorem State.clockAt_cascadeTx (s : State) (sub : Fin 100) : (s.clockAt sub).cascadeTx = s.cascadeTx := rfl
@[simp] theorem State.clockAt_faults (s : State) (sub : Fin 100) : (s.clockAt sub).faults = s.faults := rfl
@[simp] theorem State.clockAt_flags (s : State) (sub : Fin 100) : (s.clockAt sub).flags = s.flags := rfl
@[simp] theorem State.clockAt_overflow (s : State) (sub : Fin 100) : (s.clockAt sub).overflow = s.overflow := rfl
@[simp] theorem State.clockAt_station (s : State) (sub : Fin 100) : (s.clockAt sub).station = s.station := rfl
@[simp] theorem State.clockAt_noticeMode (s : State) (sub : Fin 100) : (s.clockAt sub).noticeMode = s.noticeMode := rfl
@[simp] theorem State.clockAt_reportInterval (s : State) (sub : Fin 100) : (s.clockAt sub).reportInterval = s.reportInterval := rfl
@[simp] theorem State.clockAt_noticeHoldoff (s : State) (sub : Fin 100) : (s.clockAt sub).noticeHoldoff = s.noticeHoldoff := rfl
@[simp] theorem State.clockAt_eventMask (s : State) (sub : Fin 100) : (s.clockAt sub).eventMask = s.eventMask := rfl
@[simp] theorem State.clockAt_reportExpiry (s : State) (sub : Fin 100) : (s.clockAt sub).reportExpiry = s.reportExpiry := rfl
@[simp] theorem State.clockAt_holdoffExpiry (s : State) (sub : Fin 100) : (s.clockAt sub).holdoffExpiry = s.holdoffExpiry := rfl
@[simp] theorem State.clockAt_noticePending (s : State) (sub : Fin 100) : (s.clockAt sub).noticePending = s.noticePending := rfl
@[simp] theorem State.clockAt_indicatorMask (s : State) (sub : Fin 100) : (s.clockAt sub).indicatorMask = s.indicatorMask := rfl
@[simp] theorem State.clockAt_indicatorHigh (s : State) (sub : Fin 100) : (s.clockAt sub).indicatorHigh = s.indicatorHigh := rfl
@[simp] theorem State.clockAt_faultInd (s : State) (sub : Fin 100) : (s.clockAt sub).faultInd = s.faultInd := rfl
@[simp] theorem State.clockAt_label (s : State) (sub : Fin 100) : (s.clockAt sub).label = s.label := rfl
@[simp] theorem State.clockAt_straps (s : State) (sub : Fin 100) : (s.clockAt sub).straps = s.straps := rfl
@[simp] theorem State.clockAt_progress (s : State) (sub : Fin 100) : (s.clockAt sub).progress = s.progress := rfl
@[simp] theorem State.clockAt_transportKey (s : State) (sub : Fin 100) : (s.clockAt sub).transportKey = s.transportKey := rfl
@[simp] theorem State.clockAt_pending (s : State) (sub : Fin 100) : (s.clockAt sub).pending = s.pending := rfl

/-! ### `learned` -/

@[simp] theorem State.learned_rstLow (s : State) (h : CmdHeader) : (s.learned h).rstLow = s.rstLow := rfl
@[simp] theorem State.learned_tick (s : State) (h : CmdHeader) : (s.learned h).tick = s.tick := rfl
@[simp] theorem State.learned_phase (s : State) (h : CmdHeader) : (s.learned h).phase = s.phase := rfl
@[simp] theorem State.learned_intervalEnd (s : State) (h : CmdHeader) : (s.learned h).intervalEnd = s.intervalEnd := rfl
@[simp] theorem State.learned_clock (s : State) (h : CmdHeader) : (s.learned h).clock = s.clock := rfl
@[simp] theorem State.learned_holding (s : State) (h : CmdHeader) : (s.learned h).holding = s.holding := rfl
@[simp] theorem State.learned_paused (s : State) (h : CmdHeader) : (s.learned h).paused = s.paused := rfl
@[simp] theorem State.learned_intervals (s : State) (h : CmdHeader) : (s.learned h).intervals = s.intervals := rfl
@[simp] theorem State.learned_shadowIntervals (s : State) (h : CmdHeader) : (s.learned h).shadowIntervals = s.shadowIntervals := rfl
@[simp] theorem State.learned_keyOffset (s : State) (h : CmdHeader) : (s.learned h).keyOffset = s.keyOffset := rfl
@[simp] theorem State.learned_statusPort (s : State) (h : CmdHeader) : (s.learned h).statusPort = s.statusPort := rfl
@[simp] theorem State.learned_statusType (s : State) (h : CmdHeader) : (s.learned h).statusType = s.statusType := rfl
@[simp] theorem State.learned_counters (s : State) (h : CmdHeader) : (s.learned h).counters = s.counters := rfl
@[simp] theorem State.learned_tunnels (s : State) (h : CmdHeader) : (s.learned h).tunnels = s.tunnels := rfl
@[simp] theorem State.learned_profiles (s : State) (h : CmdHeader) : (s.learned h).profiles = s.profiles := rfl
@[simp] theorem State.learned_bankMask (s : State) (h : CmdHeader) : (s.learned h).bankMask = s.bankMask := rfl
@[simp] theorem State.learned_segmentMask (s : State) (h : CmdHeader) : (s.learned h).segmentMask = s.segmentMask := rfl
@[simp] theorem State.learned_kduQueue (s : State) (h : CmdHeader) : (s.learned h).kduQueue = s.kduQueue := rfl
@[simp] theorem State.learned_kduFlight (s : State) (h : CmdHeader) : (s.learned h).kduFlight = s.kduFlight := rfl
@[simp] theorem State.learned_draws (s : State) (h : CmdHeader) : (s.learned h).draws = s.draws := rfl
@[simp] theorem State.learned_lfsr (s : State) (h : CmdHeader) : (s.learned h).lfsr = s.lfsr := rfl
@[simp] theorem State.learned_jitterBase (s : State) (h : CmdHeader) : (s.learned h).jitterBase = s.jitterBase := rfl
@[simp] theorem State.learned_jitterRange (s : State) (h : CmdHeader) : (s.learned h).jitterRange = s.jitterRange := rfl
@[simp] theorem State.learned_uplinks (s : State) (h : CmdHeader) : (s.learned h).uplinks = s.uplinks := rfl
@[simp] theorem State.learned_groupFlags (s : State) (h : CmdHeader) : (s.learned h).groupFlags = s.groupFlags := rfl
@[simp] theorem State.learned_shadowGroupFlags (s : State) (h : CmdHeader) : (s.learned h).shadowGroupFlags = s.shadowGroupFlags := rfl
@[simp] theorem State.learned_waiting (s : State) (h : CmdHeader) : (s.learned h).waiting = s.waiting := rfl
@[simp] theorem State.learned_pointers (s : State) (h : CmdHeader) : (s.learned h).pointers = s.pointers := rfl
@[simp] theorem State.learned_officeQueue (s : State) (h : CmdHeader) : (s.learned h).officeQueue = s.officeQueue := rfl
@[simp] theorem State.learned_officeTx (s : State) (h : CmdHeader) : (s.learned h).officeTx = s.officeTx := rfl
@[simp] theorem State.learned_cascadeUp (s : State) (h : CmdHeader) : (s.learned h).cascadeUp = s.cascadeUp := rfl
@[simp] theorem State.learned_cascadeList (s : State) (h : CmdHeader) : (s.learned h).cascadeList = s.cascadeList := rfl
@[simp] theorem State.learned_cascadeTx (s : State) (h : CmdHeader) : (s.learned h).cascadeTx = s.cascadeTx := rfl
@[simp] theorem State.learned_faults (s : State) (h : CmdHeader) : (s.learned h).faults = s.faults := rfl
@[simp] theorem State.learned_flags (s : State) (h : CmdHeader) : (s.learned h).flags = s.flags := rfl
@[simp] theorem State.learned_overflow (s : State) (h : CmdHeader) : (s.learned h).overflow = s.overflow := rfl
@[simp] theorem State.learned_noticeMode (s : State) (h : CmdHeader) : (s.learned h).noticeMode = s.noticeMode := rfl
@[simp] theorem State.learned_reportInterval (s : State) (h : CmdHeader) : (s.learned h).reportInterval = s.reportInterval := rfl
@[simp] theorem State.learned_noticeHoldoff (s : State) (h : CmdHeader) : (s.learned h).noticeHoldoff = s.noticeHoldoff := rfl
@[simp] theorem State.learned_eventMask (s : State) (h : CmdHeader) : (s.learned h).eventMask = s.eventMask := rfl
@[simp] theorem State.learned_reportExpiry (s : State) (h : CmdHeader) : (s.learned h).reportExpiry = s.reportExpiry := rfl
@[simp] theorem State.learned_holdoffExpiry (s : State) (h : CmdHeader) : (s.learned h).holdoffExpiry = s.holdoffExpiry := rfl
@[simp] theorem State.learned_noticePending (s : State) (h : CmdHeader) : (s.learned h).noticePending = s.noticePending := rfl
@[simp] theorem State.learned_indicatorMask (s : State) (h : CmdHeader) : (s.learned h).indicatorMask = s.indicatorMask := rfl
@[simp] theorem State.learned_indicatorHigh (s : State) (h : CmdHeader) : (s.learned h).indicatorHigh = s.indicatorHigh := rfl
@[simp] theorem State.learned_faultInd (s : State) (h : CmdHeader) : (s.learned h).faultInd = s.faultInd := rfl
@[simp] theorem State.learned_label (s : State) (h : CmdHeader) : (s.learned h).label = s.label := rfl
@[simp] theorem State.learned_straps (s : State) (h : CmdHeader) : (s.learned h).straps = s.straps := rfl
@[simp] theorem State.learned_progress (s : State) (h : CmdHeader) : (s.learned h).progress = s.progress := rfl
@[simp] theorem State.learned_transportKey (s : State) (h : CmdHeader) : (s.learned h).transportKey = s.transportKey := rfl
@[simp] theorem State.learned_pending (s : State) (h : CmdHeader) : (s.learned h).pending = s.pending := rfl

/-! ### Reading an entry after an update -/

theorem vector_get_set {α : Type} {n : Nat} (v : Vector α n) (i j : Fin n) (x : α) :
    (v.set i x)[j] = if j = i then x else v[j] := by
  simp [Vector.getElem_set, Fin.ext_iff, eq_comm]

@[simp] theorem vecConst_getElem {α : Type} {n : Nat} (x : α) (i : Nat) (h : i < n) : (vecConst n x)[i] = x := by
  simp [vecConst]

@[simp] theorem vecMap_getElem {α β : Type} {n : Nat} (f : α → β) (v : Vector α n) (i : Nat) (h : i < n) :
    (vecMap f v)[i] = f v[i] := by
  simp [vecMap]

theorem State.tun_setTun (s : State) (t t' : TunnelId) (x : Tunnel) : (s.setTun t x).tun t' = if t' = t then x else s.tun t' :=
  vector_get_set s.tunnels t t' x

@[simp] theorem State.tun_setTun_self (s : State) (t : TunnelId) (x : Tunnel) : (s.setTun t x).tun t = x := by
  simp [State.tun_setTun]

theorem State.tun_setTun_ne (s : State) {t t' : TunnelId} (x : Tunnel) (h : t' ≠ t) : (s.setTun t x).tun t' = s.tun t' := by
  simp [State.tun_setTun, h]

theorem State.uplink_setUplink (s : State) (u u' : UplinkId) (x : Uplink) :
    (s.setUplink u x).uplink u' = if u' = u then x else s.uplink u' :=
  vector_get_set s.uplinks u u' x

@[simp] theorem State.uplink_setUplink_self (s : State) (u : UplinkId) (x : Uplink) : (s.setUplink u x).uplink u = x := by
  simp [State.uplink_setUplink]

theorem State.list_setList (s : State) (g g' : UplinkId) (l : List TunnelId) :
    (s.setList g l).list g' = if g' = g then l else s.list g' :=
  vector_get_set s.waiting g g' l

@[simp] theorem State.list_setList_self (s : State) (g : UplinkId) (l : List TunnelId) : (s.setList g l).list g = l := by
  simp [State.list_setList]

@[simp] theorem State.setTun_setTun (s : State) (t : TunnelId) (x y : Tunnel) : (s.setTun t x).setTun t y = s.setTun t y := by
  simp [State.setTun]

@[simp] theorem State.setUplink_setUplink (s : State) (u : UplinkId) (x y : Uplink) :
    (s.setUplink u x).setUplink u y = s.setUplink u y := by
  simp [State.setUplink]

@[simp] theorem State.setTun_tun (s : State) (t : TunnelId) : s.setTun t (s.tun t) = s := by
  simp [State.setTun, State.tun]

@[simp] theorem State.setUplink_uplink (s : State) (u : UplinkId) : s.setUplink u (s.uplink u) = s := by
  simp [State.setUplink, State.uplink]

@[simp] theorem State.setList_list (s : State) (g : UplinkId) : s.setList g (s.list g) = s := by
  simp [State.setList, State.list]

@[simp] theorem State.uplink_setTun (s : State) (t : TunnelId) (x : Tunnel) (u' : UplinkId) : (s.setTun t x).uplink u' = s.uplink u' := rfl
@[simp] theorem State.list_setTun (s : State) (t : TunnelId) (x : Tunnel) (g' : UplinkId) : (s.setTun t x).list g' = s.list g' := rfl
@[simp] theorem State.tun_setUplink (s : State) (u : UplinkId) (x : Uplink) (t' : TunnelId) : (s.setUplink u x).tun t' = s.tun t' := rfl
@[simp] theorem State.list_setUplink (s : State) (u : UplinkId) (x : Uplink) (g' : UplinkId) : (s.setUplink u x).list g' = s.list g' := rfl
@[simp] theorem State.prof_setUplink (s : State) (u : UplinkId) (x : Uplink) (t' : TunnelId) : (s.setUplink u x).prof t' = s.prof t' := rfl
@[simp] theorem State.tun_setList (s : State) (g : UplinkId) (l : List TunnelId) (t' : TunnelId) : (s.setList g l).tun t' = s.tun t' := rfl
@[simp] theorem State.uplink_setList (s : State) (g : UplinkId) (l : List TunnelId) (u' : UplinkId) : (s.setList g l).uplink u' = s.uplink u' := rfl
@[simp] theorem State.prof_setList (s : State) (g : UplinkId) (l : List TunnelId) (t' : TunnelId) : (s.setList g l).prof t' = s.prof t' := rfl
@[simp] theorem State.tun_point (s : State) (g u : UplinkId) (t' : TunnelId) : (s.point g u).tun t' = s.tun t' := rfl
@[simp] theorem State.uplink_point (s : State) (g u : UplinkId) (u' : UplinkId) : (s.point g u).uplink u' = s.uplink u' := rfl
@[simp] theorem State.list_point (s : State) (g u : UplinkId) (g' : UplinkId) : (s.point g u).list g' = s.list g' := rfl
@[simp] theorem State.prof_point (s : State) (g u : UplinkId) (t' : TunnelId) : (s.point g u).prof t' = s.prof t' := rfl
@[simp] theorem State.tun_modCounters (s : State) (f : DeviceCounters → DeviceCounters) (t' : TunnelId) : (s.modCounters f).tun t' = s.tun t' := rfl
@[simp] theorem State.uplink_modCounters (s : State) (f : DeviceCounters → DeviceCounters) (u' : UplinkId) : (s.modCounters f).uplink u' = s.uplink u' := rfl
@[simp] theorem State.list_modCounters (s : State) (f : DeviceCounters → DeviceCounters) (g' : UplinkId) : (s.modCounters f).list g' = s.list g' := rfl
@[simp] theorem State.prof_modCounters (s : State) (f : DeviceCounters → DeviceCounters) (t' : TunnelId) : (s.modCounters f).prof t' = s.prof t' := rfl
@[simp] theorem State.tun_setFlags (s : State) (f : BitVec 11) (t' : TunnelId) : (s.setFlags f).tun t' = s.tun t' := rfl
@[simp] theorem State.uplink_setFlags (s : State) (f : BitVec 11) (u' : UplinkId) : (s.setFlags f).uplink u' = s.uplink u' := rfl
@[simp] theorem State.list_setFlags (s : State) (f : BitVec 11) (g' : UplinkId) : (s.setFlags f).list g' = s.list g' := rfl
@[simp] theorem State.prof_setFlags (s : State) (f : BitVec 11) (t' : TunnelId) : (s.setFlags f).prof t' = s.prof t' := rfl
@[simp] theorem State.tun_officePush (s : State) (k : OfficeKind) (f : EthFrame) (t' : TunnelId) : (s.officePush k f).tun t' = s.tun t' := rfl
@[simp] theorem State.uplink_officePush (s : State) (k : OfficeKind) (f : EthFrame) (u' : UplinkId) : (s.officePush k f).uplink u' = s.uplink u' := rfl
@[simp] theorem State.list_officePush (s : State) (k : OfficeKind) (f : EthFrame) (g' : UplinkId) : (s.officePush k f).list g' = s.list g' := rfl
@[simp] theorem State.prof_officePush (s : State) (k : OfficeKind) (f : EthFrame) (t' : TunnelId) : (s.officePush k f).prof t' = s.prof t' := rfl
@[simp] theorem State.tun_clockAt (s : State) (sub : Fin 100) (t' : TunnelId) : (s.clockAt sub).tun t' = s.tun t' := rfl
@[simp] theorem State.uplink_clockAt (s : State) (sub : Fin 100) (u' : UplinkId) : (s.clockAt sub).uplink u' = s.uplink u' := rfl
@[simp] theorem State.list_clockAt (s : State) (sub : Fin 100) (g' : UplinkId) : (s.clockAt sub).list g' = s.list g' := rfl
@[simp] theorem State.prof_clockAt (s : State) (sub : Fin 100) (t' : TunnelId) : (s.clockAt sub).prof t' = s.prof t' := rfl
@[simp] theorem State.tun_learned (s : State) (h : CmdHeader) (t' : TunnelId) : (s.learned h).tun t' = s.tun t' := rfl
@[simp] theorem State.uplink_learned (s : State) (h : CmdHeader) (u' : UplinkId) : (s.learned h).uplink u' = s.uplink u' := rfl
@[simp] theorem State.list_learned (s : State) (h : CmdHeader) (g' : UplinkId) : (s.learned h).list g' = s.list g' := rfl
@[simp] theorem State.prof_learned (s : State) (h : CmdHeader) (t' : TunnelId) : (s.learned h).prof t' = s.prof t' := rfl

theorem State.prof_setTun (s : State) (t : TunnelId) (x : Tunnel) (h : x.cfg.profile = (s.tun t).cfg.profile) (t' : TunnelId) :
    (s.setTun t x).prof t' = s.prof t' := by
  have hp : ((s.setTun t x).tun t').cfg.profile = (s.tun t').cfg.profile := by
    rw [State.tun_setTun]
    split
    · simp_all
    · rfl
  simp [State.prof, hp]

@[simp] theorem State.after_setTun (s : State) (t : TunnelId) (x : Tunnel) (d : Nat) : (s.setTun t x).after d = s.after d := rfl

@[simp] theorem State.after_setUplink (s : State) (u : UplinkId) (x : Uplink) (d : Nat) : (s.setUplink u x).after d = s.after d := rfl

/-! ### The live bridge and the outcome of a command -/

theorem State.live_high {s : State} (h : s.rstLow = false) (f : State → State) : s.live f = f s := by simp [State.live, h]

theorem State.live_low {s : State} (h : s.rstLow = true) (f : State → State) : s.live f = s := by simp [State.live, h]

end Sys2Proof.Machine
end

