-- ==== Sys2Proof/Laws/Reporter.lean ====
section
/-! SUPPORT. What the Fault Reporter's post, the office transmit queue and the cascade list can change. -/

namespace Sys2Proof.Machine

/-! ### The indicator pin -/

theorem setFlags_indicator (s : State) (f : BitVec 11) : (s.setFlags f).faultInd = (s.setFlags f).indicatorLevel := rfl

/-- While RST_N is high the pin stands at its active level exactly when the summary holds a flag of the mask. -/
theorem indicatorLevel_high (s : State) (h : s.rstLow = false) :
    s.indicatorLevel = if s.flags &&& s.indicatorMask = 0 then !s.indicatorHigh else s.indicatorHigh := by
  unfold State.indicatorLevel
  by_cases hz : s.flags &&& s.indicatorMask = 0 <;> simp [h, hz]

theorem setFlags_high (s : State) (f : BitVec 11) (h : s.rstLow = false) :
    s.setFlags f = { s with
      flags := f, faultInd := if f &&& s.indicatorMask = 0 then !s.indicatorHigh else s.indicatorHigh } :=
  congrArg (fun b : Bool => { s with flags := f, faultInd := b }) (indicatorLevel_high { s with flags := f } h)

@[simp] theorem setFlags_flags (s : State) (f : BitVec 11) : (s.setFlags f).flags = f := rfl

/-! ### A post -/

/-- A record changes the fault queue, the overflow count, the flags and the pin, and nothing else. -/
theorem recordPost_frame (k : FaultKind) (subject : Option Nat) (d : BitVec 32) (s : State) :
    { recordPost k subject d s with faults := s.faults, overflow := s.overflow, flags := s.flags, faultInd := s.faultInd } = s := by
  unfold recordPost
  simp only []
  split <;> rfl

theorem recordPost_indicator (k : FaultKind) (subject : Option Nat) (d : BitVec 32) (s : State) :
    (recordPost k subject d s).faultInd = (recordPost k subject d s).indicatorLevel := by
  unfold recordPost
  simp only []
  split <;> rfl

/-- What a post may change: the fault queue, the overflow count, the flags, the pin, the notice timers, the office transmit queue
and the device counters. -/
abbrev State.postFrame (s r : State) : Prop :=
  { r with
    faults := s.faults, overflow := s.overflow, flags := s.flags, faultInd := s.faultInd, counters := s.counters
    officeQueue := s.officeQueue, reportExpiry := s.reportExpiry, holdoffExpiry := s.holdoffExpiry
    noticePending := s.noticePending } = s

theorem State.postFrame.of_eq {s r q : State} (h : State.postFrame s r)
    (e : { q with
      faults := s.faults, overflow := s.overflow, flags := s.flags, faultInd := s.faultInd, counters := s.counters
      officeQueue := s.officeQueue, reportExpiry := s.reportExpiry, holdoffExpiry := s.holdoffExpiry
      noticePending := s.noticePending }
      = { r with
        faults := s.faults, overflow := s.overflow, flags := s.flags, faultInd := s.faultInd, counters := s.counters
        officeQueue := s.officeQueue, reportExpiry := s.reportExpiry, holdoffExpiry := s.holdoffExpiry
        noticePending := s.noticePending }) : State.postFrame s q := e.trans h

theorem recordPost_postFrame (k : FaultKind) (subject : Option Nat) (d : BitVec 32) (s : State) :
    State.postFrame s (recordPost k subject d s) := by
  unfold recordPost
  simp only []
  split <;> rfl

theorem dropNotice_postFrame (s : State) : State.postFrame s (dropNotice s) := by
  have h := recordPost_postFrame .officeOverrun none (BitVec.ofNat 32 s.freeSlots) (countOverrun s)
  unfold dropNotice
  simp only []
  split
  · exact State.postFrame.of_eq (congrArg (fun r : State => { r with counters := s.counters }) h) rfl
  · exact State.postFrame.of_eq (congrArg (fun r : State => { r with counters := s.counters }) h) rfl

theorem sendNotice_postFrame (s : State) : State.postFrame s (sendNotice s) := by
  unfold sendNotice
  split
  · rfl
  · split
    · rfl
    · exact dropNotice_postFrame s

theorem noticeOnSet_postFrame (s : State) : State.postFrame s (noticeOnSet s) := by
  unfold noticeOnSet
  split
  · exact State.postFrame.of_eq
      (congrArg (fun r : State => { r with reportExpiry := s.reportExpiry, holdoffExpiry := s.holdoffExpiry })
        (sendNotice_postFrame (armNotice s))) rfl
  · rfl

/-- All that a post can change. -/
theorem post_frame (k : FaultKind) (subject : Option Nat) (d : BitVec 32) (s : State) :
    State.postFrame s (post k subject d s) := by
  unfold post
  simp only []
  split
  · exact (congrArg (fun r : State => { r with
        faults := s.faults, overflow := s.overflow, flags := s.flags, faultInd := s.faultInd, counters := s.counters
        officeQueue := s.officeQueue, reportExpiry := s.reportExpiry, holdoffExpiry := s.holdoffExpiry
        noticePending := s.noticePending }) (noticeOnSet_postFrame (recordPost k subject d s))).trans
      (recordPost_postFrame k subject d s)
  · exact recordPost_postFrame k subject d s

/-! ### The fields that a post leaves alone -/

@[simp] theorem post_rstLow (k : FaultKind) (subject : Option Nat) (d : BitVec 32) (s : State) :
    (post k subject d s).rstLow = s.rstLow := (congrArg State.rstLow (post_frame k subject d s) :)
@[simp] theorem post_tick (k : FaultKind) (subject : Option Nat) (d : BitVec 32) (s : State) :
    (post k subject d s).tick = s.tick := (congrArg State.tick (post_frame k subject d s) :)
@[simp] theorem post_phase (k : FaultKind) (subject : Option Nat) (d : BitVec 32) (s : State) :
    (post k subject d s).phase = s.phase := (congrArg State.phase (post_frame k subject d s) :)
@[simp] theorem post_intervalEnd (k : FaultKind) (subject : Option Nat) (d : BitVec 32) (s : State) :
    (post k subject d s).intervalEnd = s.intervalEnd := (congrArg State.intervalEnd (post_frame k subject d s) :)
@[simp] theorem post_clock (k : FaultKind) (subject : Option Nat) (d : BitVec 32) (s : State) :
    (post k subject d s).clock = s.clock := (congrArg State.clock (post_frame k subject d s) :)
@[simp] theorem post_holding (k : FaultKind) (subject : Option Nat) (d : BitVec 32) (s : State) :
    (post k subject d s).holding = s.holding := (congrArg State.holding (post_frame k subject d s) :)
@[simp] theorem post_paused (k : FaultKind) (subject : Option Nat) (d : BitVec 32) (s : State) :
    (post k subject d s).paused = s.paused := (congrArg State.paused (post_frame k subject d s) :)
@[simp] theorem post_intervals (k : FaultKind) (subject : Option Nat) (d : BitVec 32) (s : State) :
    (post k subject d s).intervals = s.intervals := (congrArg State.intervals (post_frame k subject d s) :)
@[simp] theorem post_shadowIntervals (k : FaultKind) (subject : Option Nat) (d : BitVec 32) (s : State) :
    (post k subject d s).shadowIntervals = s.shadowIntervals := (congrArg State.shadowIntervals (post_frame k subject d s) :)
@[simp] theorem post_keyOffset (k : FaultKind) (subject : Option Nat) (d : BitVec 32) (s : State) :
    (post k subject d s).keyOffset = s.keyOffset := (congrArg State.keyOffset (post_frame k subject d s) :)
@[simp] theorem post_statusPort (k : FaultKind) (subject : Option Nat) (d : BitVec 32) (s : State) :
    (post k subject d s).statusPort = s.statusPort := (congrArg State.statusPort (post_frame k subject d s) :)
@[simp] theorem post_statusType (k : FaultKind) (subject : Option Nat) (d : BitVec 32) (s : State) :
    (post k subject d s).statusType = s.statusType := (congrArg State.statusType (post_frame k subject d s) :)
@[simp] theorem post_tunnels (k : FaultKind) (subject : Option Nat) (d : BitVec 32) (s : State) :
    (post k subject d s).tunnels = s.tunnels := (congrArg State.tunnels (post_frame k subject d s) :)
@[simp] theorem post_profiles (k : FaultKind) (subject : Option Nat) (d : BitVec 32) (s : State) :
    (post k subject d s).profiles = s.profiles := (congrArg State.profiles (post_frame k subject d s) :)
@[simp] theorem post_bankMask (k : FaultKind) (subject : Option Nat) (d : BitVec 32) (s : State) :
    (post k subject d s).bankMask = s.bankMask := (congrArg State.bankMask (post_frame k subject d s) :)
@[simp] theorem post_segmentMask (k : FaultKind) (subject : Option Nat) (d : BitVec 32) (s : State) :
    (post k subject d s).segmentMask = s.segmentMask := (congrArg State.segmentMask (post_frame k subject d s) :)
@[simp] theorem post_kduQueue (k : FaultKind) (subject : Option Nat) (d : BitVec 32) (s : State) :
    (post k subject d s).kduQueue = s.kduQueue := (congrArg State.kduQueue (post_frame k subject d s) :)
@[simp] theorem post_kduFlight (k : FaultKind) (subject : Option Nat) (d : BitVec 32) (s : State) :
    (post k subject d s).kduFlight = s.kduFlight := (congrArg State.kduFlight (post_frame k subject d s) :)
@[simp] theorem post_draws (k : FaultKind) (subject : Option Nat) (d : BitVec 32) (s : State) :
    (post k subject d s).draws = s.draws := (congrArg State.draws (post_frame k subject d s) :)
@[simp] theorem post_lfsr (k : FaultKind) (subject : Option Nat) (d : BitVec 32) (s : State) :
    (post k subject d s).lfsr = s.lfsr := (congrArg State.lfsr (post_frame k subject d s) :)
@[simp] theorem post_jitterBase (k : FaultKind) (subject : Option Nat) (d : BitVec 32) (s : State) :
    (post k subject d s).jitterBase = s.jitterBase := (congrArg State.jitterBase (post_frame k subject d s) :)
@[simp] theorem post_jitterRange (k : FaultKind) (subject : Option Nat) (d : BitVec 32) (s : State) :
    (post k subject d s).jitterRange = s.jitterRange := (congrArg State.jitterRange (post_frame k subject d s) :)
@[simp] theorem post_uplinks (k : FaultKind) (subject : Option Nat) (d : BitVec 32) (s : State) :
    (post k subject d s).uplinks = s.uplinks := (congrArg State.uplinks (post_frame k subject d s) :)
@[simp] theorem post_groupFlags (k : FaultKind) (subject : Option Nat) (d : BitVec 32) (s : State) :
    (post k subject d s).groupFlags = s.groupFlags := (congrArg State.groupFlags (post_frame k subject d s) :)
@[simp] theorem post_shadowGroupFlags (k : FaultKind) (subject : Option Nat) (d : BitVec 32) (s : State) :
    (post k subject d s).shadowGroupFlags = s.shadowGroupFlags := (congrArg State.shadowGroupFlags (post_frame k subject d s) :)
@[simp] theorem post_waiting (k : FaultKind) (subject : Option Nat) (d : BitVec 32) (s : State) :
    (post k subject d s).waiting = s.waiting := (congrArg State.waiting (post_frame k subject d s) :)
@[simp] theorem post_pointers (k : FaultKind) (subject : Option Nat) (d : BitVec 32) (s : State) :
    (post k subject d s).pointers = s.pointers := (congrArg State.pointers (post_frame k subject d s) :)
@[simp] theorem post_officeTx (k : FaultKind) (subject : Option Nat) (d : BitVec 32) (s : State) :
    (post k subject d s).officeTx = s.officeTx := (congrArg State.officeTx (post_frame k subject d s) :)
@[simp] theorem post_cascadeUp (k : FaultKind) (subject : Option Nat) (d : BitVec 32) (s : State) :
    (post k subject d s).cascadeUp = s.cascadeUp := (congrArg State.cascadeUp (post_frame k subject d s) :)
@[simp] theorem post_cascadeList (k : FaultKind) (subject : Option Nat) (d : BitVec 32) (s : State) :
    (post k subject d s).cascadeList = s.cascadeList := (congrArg State.cascadeList (post_frame k subject d s) :)
@[simp] theorem post_cascadeTx (k : FaultKind) (subject : Option Nat) (d : BitVec 32) (s : State) :
    (post k subject d s).cascadeTx = s.cascadeTx := (congrArg State.cascadeTx (post_frame k subject d s) :)
@[simp] theorem post_station (k : FaultKind) (subject : Option Nat) (d : BitVec 32) (s : State) :
    (post k subject d s).station = s.station := (congrArg State.station (post_frame k subject d s) :)
@[simp] theorem post_noticeMode (k : FaultKind) (subject : Option Nat) (d : BitVec 32) (s : State) :
    (post k subject d s).noticeMode = s.noticeMode := (congrArg State.noticeMode (post_frame k subject d s) :)
@[simp] theorem post_reportInterval (k : FaultKind) (subject : Option Nat) (d : BitVec 32) (s : State) :
    (post k subject d s).reportInterval = s.reportInterval := (congrArg State.reportInterval (post_frame k subject d s) :)
@[simp] theorem post_noticeHoldoff (k : FaultKind) (subject : Option Nat) (d : BitVec 32) (s : State) :
    (post k subject d s).noticeHoldoff = s.noticeHoldoff := (congrArg State.noticeHoldoff (post_frame k subject d s) :)
@[simp] theorem post_eventMask (k : FaultKind) (subject : Option Nat) (d : BitVec 32) (s : State) :
    (post k subject d s).eventMask = s.eventMask := (congrArg State.eventMask (post_frame k subject d s) :)
@[simp] theorem post_indicatorMask (k : FaultKind) (subject : Option Nat) (d : BitVec 32) (s : State) :
    (post k subject d s).indicatorMask = s.indicatorMask := (congrArg State.indicatorMask (post_frame k subject d s) :)
@[simp] theorem post_indicatorHigh (k : FaultKind) (subject : Option Nat) (d : BitVec 32) (s : State) :
    (post k subject d s).indicatorHigh = s.indicatorHigh := (congrArg State.indicatorHigh (post_frame k subject d s) :)
@[simp] theorem post_label (k : FaultKind) (subject : Option Nat) (d : BitVec 32) (s : State) :
    (post k subject d s).label = s.label := (congrArg State.label (post_frame k subject d s) :)
@[simp] theorem post_straps (k : FaultKind) (subject : Option Nat) (d : BitVec 32) (s : State) :
    (post k subject d s).straps = s.straps := (congrArg State.straps (post_frame k subject d s) :)
@[simp] theorem post_progress (k : FaultKind) (subject : Option Nat) (d : BitVec 32) (s : State) :
    (post k subject d s).progress = s.progress := (congrArg State.progress (post_frame k subject d s) :)
@[simp] theorem post_transportKey (k : FaultKind) (subject : Option Nat) (d : BitVec 32) (s : State) :
    (post k subject d s).transportKey = s.transportKey := (congrArg State.transportKey (post_frame k subject d s) :)
@[simp] theorem post_pending (k : FaultKind) (subject : Option Nat) (d : BitVec 32) (s : State) :
    (post k subject d s).pending = s.pending := (congrArg State.pending (post_frame k subject d s) :)
@[simp] theorem post_tun (k : FaultKind) (subject : Option Nat) (d : BitVec 32) (s : State) (t : TunnelId) :
    (post k subject d s).tun t = s.tun t := (congrArg (fun r : State => r.tun t) (post_frame k subject d s) :)
@[simp] theorem post_prof (k : FaultKind) (subject : Option Nat) (d : BitVec 32) (s : State) (t : TunnelId) :
    (post k subject d s).prof t = s.prof t := (congrArg (fun r : State => r.prof t) (post_frame k subject d s) :)
@[simp] theorem post_uplink (k : FaultKind) (subject : Option Nat) (d : BitVec 32) (s : State) (t : UplinkId) :
    (post k subject d s).uplink t = s.uplink t := (congrArg (fun r : State => r.uplink t) (post_frame k subject d s) :)
@[simp] theorem post_list (k : FaultKind) (subject : Option Nat) (d : BitVec 32) (s : State) (t : UplinkId) :
    (post k subject d s).list t = s.list t := (congrArg (fun r : State => r.list t) (post_frame k subject d s) :)
@[simp] theorem post_after (k : FaultKind) (subject : Option Nat) (d : BitVec 32) (s : State) (t : Nat) :
    (post k subject d s).after t = s.after t := (congrArg (fun r : State => r.after t) (post_frame k subject d s) :)

/-! ### The office transmit queue and the cascade list -/

/-- A frame offered to the office transmit queue joins it, or is dropped with a post. -/
theorem offerReserved_frame (k : OfficeKind) (f : EthFrame) (s : State) : State.postFrame s (offerReserved k f s) := by
  unfold offerReserved
  split
  · rfl
  · exact State.postFrame.of_eq (congrArg (fun r : State => { r with counters := s.counters })
      (post_frame .officeOverrun none (BitVec.ofNat 32 s.freeSlots) (countOverrun s))) rfl

/-- A clear frame offered to the office transmit queue joins it, or is dropped with a post. -/
theorem offerClear_frame (f : EthFrame) (s : State) : State.postFrame s (offerClear f s) := by
  unfold offerClear
  split
  · rfl
  · exact State.postFrame.of_eq (congrArg (fun r : State => { r with counters := s.counters })
      (post_frame .officeOverrun none (BitVec.ofNat 32 s.freeSlots) (countOverrun s))) rfl

/-- A reply changes what a post can change. -/
theorem sendReply_frame (dst : Mac) (tag : BitVec 16) (code : Byte) (st : Status) (payload : List Byte) (s : State) :
    State.postFrame s (sendReply dst tag code st payload s) := offerReserved_frame _ _ s

theorem cascadeForward_down (f : EthFrame) (s : State) (h : s.cascadeUp = false) : cascadeForward f s = (s, false) := by
  simp [cascadeForward, h]

/-- Forwarding changes the cascade forwarding list or CASCADE_DROP. -/
theorem cascadeForward_frame (f : EthFrame) (s : State) :
    { (cascadeForward f s).1 with cascadeList := s.cascadeList, counters := s.counters } = s := by
  unfold cascadeForward
  split
  · split <;> rfl
  · rfl

end Sys2Proof.Machine
end

