-- ==== Sys2Proof/Laws/Egress.lean ====
section
/-! SUPPORT. What the shared operations on egress queues, waiting lists and grants do. -/

namespace Sys2Proof.Machine

/-- What queues and grants may change: the tunnels, the waiting lists, the uplinks and the round-robin pointers. -/
abbrev State.egressFrame (s r : State) : Prop :=
  { r with tunnels := s.tunnels, waiting := s.waiting, uplinks := s.uplinks, pointers := s.pointers } = s

theorem State.egressFrame.trans {s r q : State} (h : State.egressFrame s r) (h' : State.egressFrame r q) :
    State.egressFrame s q :=
  (congrArg (fun x : State =>
    { x with tunnels := s.tunnels, waiting := s.waiting, uplinks := s.uplinks, pointers := s.pointers }) h').trans h

/-! ### Joining a queue, and the flush -/

theorem enqueue_of_waiting (t : TunnelId) (f : CarrierFrame) (s : State) (h : (s.tun t).egress ≠ []) :
    enqueue t f s = s.setTun t { s.tun t with egress := (s.tun t).egress ++ [f] } := by
  simp [enqueue, h]

theorem enqueue_of_empty (t : TunnelId) (f : CarrierFrame) (s : State) (h : (s.tun t).egress = []) :
    enqueue t f s = (s.setTun t { s.tun t with egress := [f] }).setList (s.tun t).cfg.activeGroup
      (s.list (s.tun t).cfg.activeGroup ++ [t]) := by
  simp [enqueue, h]

@[simp] theorem enqueue_tun (t : TunnelId) (f : CarrierFrame) (s : State) :
    (enqueue t f s).tun t = { s.tun t with egress := (s.tun t).egress ++ [f] } := by
  by_cases h : (s.tun t).egress = []
  · simp [enqueue_of_empty t f s h, h]
  · simp [enqueue_of_waiting t f s h]

theorem enqueue_tun_ne (t : TunnelId) (f : CarrierFrame) (s : State) {t' : TunnelId} (h : t' ≠ t) :
    (enqueue t f s).tun t' = s.tun t' := by
  by_cases he : (s.tun t).egress = []
  · simp [enqueue_of_empty t f s he, State.tun_setTun_ne _ _ h]
  · simp [enqueue_of_waiting t f s he, State.tun_setTun_ne _ _ h]

theorem enqueue_frame (t : TunnelId) (f : CarrierFrame) (s : State) : State.egressFrame s (enqueue t f s) := by
  by_cases h : (s.tun t).egress = []
  · rw [enqueue_of_empty t f s h]
    rfl
  · rw [enqueue_of_waiting t f s h]
    rfl

@[simp] theorem flush_tun (t : TunnelId) (s : State) : (flush t s).tun t = { s.tun t with egress := [] } := by
  simp [flush, State.modTun]

theorem flush_tun_ne (t : TunnelId) (s : State) {t' : TunnelId} (h : t' ≠ t) : (flush t s).tun t' = s.tun t' := by
  simp [flush, State.modTun, State.tun_setTun_ne _ _ h]

theorem flush_frame (t : TunnelId) (s : State) : State.egressFrame s (flush t s) := rfl

theorem flush_list (t : TunnelId) (s : State) (g : UplinkId) :
    (flush t s).list g = if g = (s.tun t).cfg.activeGroup then (s.list g).filter (· ≠ t) else s.list g := by
  simp only [flush, State.modTun, State.list_setList]
  split
  · subst_vars
    rfl
  · rfl

/-! ### Grants -/

theorem enterIfWaiting_idle (t : TunnelId) (s : State) (h : (s.tun t).dormancyDue = false) : enterIfWaiting t s = s := by
  simp [enterIfWaiting, h]

theorem enterIfWaiting_frame (t : TunnelId) (s : State) : State.egressFrame s (enterIfWaiting t s) := by
  unfold enterIfWaiting
  split <;> rfl

/-- A waiting tunnel enters Dormant exactly in KEYED or UNKEYED with an empty queue, and nothing else changes (R141). -/
theorem enterIfWaiting_eq (t : TunnelId) (s : State) :
    enterIfWaiting t s =
      if (s.tun t).dormancyDue = true ∧ (s.tun t).egress = [] ∧ ((s.tun t).keyState = .keyed ∨ (s.tun t).keyState = .unkeyed)
      then s.setTun t ((s.tun t).enterDormant (s.retained t)) else s := by
  have e : ((s.tun t).dormancyDue && (s.tun t).mayRest) = true ↔ (s.tun t).dormancyDue = true ∧ (s.tun t).egress = []
      ∧ ((s.tun t).keyState = .keyed ∨ (s.tun t).keyState = .unkeyed) := by
    simp only [Tunnel.mayRest, Bool.and_eq_true, Bool.or_eq_true, beq_iff_eq, List.isEmpty_iff]
    tauto
  unfold enterIfWaiting State.modTun
  exact if_congr e rfl rfl

/-- What the head tunnel is once it has given up its oldest frame: its queue without it, and Dormant when that was its last frame
and it waits for that (R103, R105, R141). -/
def headLeft (retained : Bool) (left : List CarrierFrame) (x : Tunnel) : Tunnel :=
  let y := { x with egress := left }
  if left = [] ∧ y.dormancyDue = true ∧ (y.keyState = .keyed ∨ y.keyState = .unkeyed) then y.enterDormant retained else y

/-- All that giving up its oldest frame does to the head tunnel and its list. -/
theorem takeHead_eq (g : UplinkId) (t : TunnelId) (rest : List TunnelId) (left : List CarrierFrame) (s : State) :
    takeHead g t rest left s
      = (s.setTun t (headLeft (s.retained t) left (s.tun t))).setList g (if left = [] then rest else rest ++ [t]) := by
  by_cases hl : left = []
  · have e : takeHead g t rest left s
        = enterIfWaiting t ((s.modTun t fun x => { x with egress := left }).setList g rest) := by simp [takeHead, hl]
    have ht : ((s.modTun t fun x => { x with egress := left }).setList g rest).tun t = { s.tun t with egress := left } :=
      State.tun_setTun_self s t _
    have hr : ((s.modTun t fun x => { x with egress := left }).setList g rest).retained t = s.retained t := rfl
    rw [e, enterIfWaiting_eq, ht, hr, if_pos hl]
    unfold headLeft
    by_cases h : (s.tun t).dormancyDue = true ∧ left = [] ∧ ((s.tun t).keyState = .keyed ∨ (s.tun t).keyState = .unkeyed)
    · rw [if_pos h, if_pos (⟨hl, h.1, h.2.2⟩ : left = [] ∧ (s.tun t).dormancyDue = true
        ∧ ((s.tun t).keyState = .keyed ∨ (s.tun t).keyState = .unkeyed))]
      exact congrArg (fun v => ({ s with tunnels := v, waiting := s.waiting.set g rest } : State)) (Vector.set_set ..)
    · rw [if_neg h, if_neg (fun k => h ⟨k.2.1, k.1, k.2.2⟩ : ¬ (left = [] ∧ (s.tun t).dormancyDue = true
        ∧ ((s.tun t).keyState = .keyed ∨ (s.tun t).keyState = .unkeyed)))]
      rfl
  · have h : headLeft (s.retained t) left (s.tun t) = { s.tun t with egress := left } := by simp [headLeft, hl]
    rw [h]
    simp [takeHead, hl, State.modTun]

theorem takeHead_frame (g : UplinkId) (t : TunnelId) (rest : List TunnelId) (left : List CarrierFrame) (s : State) :
    State.egressFrame s (takeHead g t rest left s) := by
  by_cases h : left = []
  · have e := enterIfWaiting_frame t ((s.modTun t fun x => { x with egress := left }).setList g rest)
    have d : takeHead g t rest left s
        = enterIfWaiting t ((s.modTun t fun x => { x with egress := left }).setList g rest) := by simp [takeHead, h]
    rw [d]
    exact State.egressFrame.trans (r := (s.modTun t fun x => { x with egress := left }).setList g rest) rfl e
  · have d : takeHead g t rest left s = (s.modTun t fun x => { x with egress := left }).setList g (rest ++ [t]) := by
      simp [takeHead, h]
    rw [d]
    rfl

theorem point_egressFrame (g u : UplinkId) (f : Uplink → Uplink) (s : State) :
    State.egressFrame s ((s.modUplink u f).point g u) := rfl

/-- A grant changes tunnels, waiting lists, uplinks and pointers, and nothing else. -/
theorem grantOne_frame (g : UplinkId) (s : State) : State.egressFrame s (grantOne g s) := by
  unfold grantOne
  split
  · split
    · exact (takeHead_frame _ _ _ _ s).trans (point_egressFrame _ _ _ _)
    · rfl
  · rfl

/-- A grant that is possible: the first free member takes the oldest frame of the head tunnel, and the pointer names it (R103). -/
theorem grantOne_some (g u : UplinkId) (t : TunnelId) (rest : List TunnelId) (f : CarrierFrame) (left : List CarrierFrame)
    (s : State) (hl : s.list g = t :: rest) (hu : (s.roundRobin g).find? s.isFree = some u) (he : (s.tun t).egress = f :: left) :
    grantOne g s = ((takeHead g t rest left s).modUplink u fun x => { x with tx := some f }).point g u := by
  unfold grantOne
  rw [hl, hu]
  simp only []
  rw [he]

theorem grantOne_none (g : UplinkId) (s : State) (h : s.list g = [] ∨ (s.roundRobin g).find? s.isFree = none) :
    grantOne g s = s := by
  unfold grantOne
  split
  · rcases h with h | h <;> simp_all
  · rfl

theorem serve_frame (g : UplinkId) (s : State) : State.egressFrame s (serve g s) :=
  (((grantOne_frame g s).trans (grantOne_frame g _)).trans (grantOne_frame g _)).trans (grantOne_frame g _)

/-- The grants of an event change tunnels, waiting lists, uplinks and pointers, and nothing else. -/
theorem serveAll_frame (s : State) : State.egressFrame s (serveAll s) :=
  (((serve_frame 0 s).trans (serve_frame 1 _)).trans (serve_frame 2 _)).trans (serve_frame 3 _)

theorem settle_frame (t : TunnelId) (s : State) : State.egressFrame s (settle t s) :=
  (serveAll_frame s).trans (enterIfWaiting_frame t _)

theorem serve_empty (g : UplinkId) (s : State) (h : s.list g = []) : serve g s = s := by
  simp [serve, grantOne_none g s (.inl h)]

/-- Where no tunnel waits, nothing is granted. -/
theorem serveAll_empty (s : State) (h : ∀ g, s.list g = []) : serveAll s = s := by
  simp [serveAll, serve_empty _ s (h _)]

/-! ### Enciphering -/

theorem sendCurrent_some {t : TunnelId} {kind : BitVec 4} {body : List Byte} {s r : State}
    (h : sendCurrent t kind body s = some r) :
    ∃ c, (s.tun t).cur = some c ∧ c.lastSeq + 1 ≤ (s.prof t).frameLimit ∧ s.freeSlots ≠ 0
      ∧ r = enqueue t (currentFrame s t c kind body) (s.setTun t { s.tun t with cur := some { c with lastSeq := c.lastSeq + 1 } }) := by
  unfold sendCurrent at h
  split at h
  · simp at h
  · rename_i c hc
    split at h
    · simp at h
    · rename_i hn
      refine ⟨c, hc, ?_, ?_, ?_⟩
      · simp only [CurGen.spent, decide_eq_true_eq, not_or, not_lt] at hn
        exact hn.1
      · exact fun h0 => hn (.inr h0)
      · simp only [Option.some.injEq] at h
        rw [← h]
        simp [State.modTun, Tunnel.spendCurrent, hc]

theorem sendOffer_some {t : TunnelId} {target : BitVec 8} {nonce : BitVec 128} {s r : State}
    (h : sendOffer t target nonce s = some r) :
    ∃ g, (s.tun t).gen0 = some g ∧ g.lastSeq + 1 ≤ gen0Limit ∧ s.freeSlots ≠ 0
      ∧ r = enqueue t (offerFrame s t g target nonce) (s.setTun t { s.tun t with gen0 := some { g with lastSeq := g.lastSeq + 1 } }) := by
  unfold sendOffer at h
  split at h
  · simp at h
  · rename_i g hg
    split at h
    · simp at h
    · rename_i hn
      refine ⟨g, hg, by omega, fun h0 => hn (.inr h0), ?_⟩
      simp only [Option.some.injEq] at h
      rw [← h]
      simp [State.modTun, Tunnel.spendGen0, hg]

end Sys2Proof.Machine
end

