-- ==== Sys2Proof/Laws/Agent.lean ====
section
/-! SUPPORT. What the Management Agent does with a command, whichever command it is. -/

namespace Sys2Proof.Machine

/-- The context of a command under the bridge's own label. -/
def ownCtx (h : CmdHeader) : CmdCtx := { source := h.source, tag := h.tag, prov := h.prov, broadcast := false, joined := false }

/-- The state after a command's operation has given its answer. -/
def State.afterAnswer (h : CmdHeader) (code : Byte) (r : State × Answer) : State :=
  match r with
  | (s2, .now st payload) => s2.answered h code st payload
  | (s2, .later) => s2

/-- A command taken under the bridge's own label with none in progress: the address is learned, and the operation answers. -/
theorem commandRow_taken (h : CmdHeader) (code : Byte) (op : CmdOp) (s : State) (ht : Taken h s) :
    s.live (commandRow h code op) = State.afterAnswer h code (op (ownCtx h) (s.learned h)) := by
  obtain ⟨h1, h2, h3⟩ := ht
  rw [State.live_high h1]
  simp only [commandRow, h2, takeCommand, ownCtx, State.afterAnswer, State.learned]
  simp only [Bool.false_and, Bool.false_eq_true, if_false, h3, Option.isSome_none]
  rfl

/-- A command under the bridge's own label while one is in progress is answered BUSY. -/
theorem commandRow_busy (h : CmdHeader) (code : Byte) (op : CmdOp) (s : State) (h1 : s.rstLow = false) (h2 : h.broadcast = none)
    (h3 : s.progress ≠ none) : s.live (commandRow h code op) = (s.learned h).answered h code .busy [] := by
  have h4 : s.progress.isSome = true := by
    cases hp : s.progress with
    | none => exact absurd hp h3
    | some p => rfl
  rw [State.live_high h1]
  simp [commandRow, h2, takeCommand, State.learned, State.answered, h4]

/-- A broadcast command other than IDENTIFY and RESET is forwarded and answered BAD_LABEL. -/
theorem commandRow_badLabel (h : CmdHeader) (code : Byte) (op : CmdOp) (s : State) (f : EthFrame) (h1 : s.rstLow = false)
    (h2 : h.broadcast = some f) (h3 : broadcastCode code = false) :
    s.live (commandRow h code op) = (cascadeForward f s).1.answered h code .badLabel [] := by
  rw [State.live_high h1]
  simp [commandRow, h2, takeCommand, State.answered, h3]

end Sys2Proof.Machine
end

