-- ==== Sys2Proof/Laws/Renewal.lean ====
section
/-! SUPPORT. What the operations of keying and renewal can change: each acts at one tunnel. -/

namespace Sys2Proof.Machine

/-- What an event at one tunnel may change outside its own entry: the waiting lists, the derivation unit, the draws, the jitter
generator, and what a post may change. -/
abbrev State.tunnelFrame (s r : State) : Prop :=
  { r with
    tunnels := s.tunnels, waiting := s.waiting, kduQueue := s.kduQueue, kduFlight := s.kduFlight, draws := s.draws
    lfsr := s.lfsr, faults := s.faults, overflow := s.overflow, flags := s.flags, faultInd := s.faultInd
    counters := s.counters, officeQueue := s.officeQueue, reportExpiry := s.reportExpiry
    holdoffExpiry := s.holdoffExpiry, noticePending := s.noticePending } = s

theorem State.tunnelFrame.trans {s r q : State} (h : State.tunnelFrame s r) (h' : State.tunnelFrame r q) :
    State.tunnelFrame s q :=
  (congrArg (fun x : State => { x with
    tunnels := s.tunnels, waiting := s.waiting, kduQueue := s.kduQueue, kduFlight := s.kduFlight, draws := s.draws
    lfsr := s.lfsr, faults := s.faults, overflow := s.overflow, flags := s.flags, faultInd := s.faultInd
    counters := s.counters, officeQueue := s.officeQueue, reportExpiry := s.reportExpiry
    holdoffExpiry := s.holdoffExpiry, noticePending := s.noticePending }) h').trans h

/-- `r` differs from `s` by an event at tunnel `t`: every other entry is as it was, and outside the entries only what
`State.tunnelFrame` names has changed. -/
structure ActsAt (t : TunnelId) (s r : State) : Prop where
  frame : State.tunnelFrame s r
  others : ∀ t', t' ≠ t → r.tun t' = s.tun t'

theorem ActsAt.refl (t : TunnelId) (s : State) : ActsAt t s s := ⟨rfl, fun _ _ => rfl⟩

theorem ActsAt.trans {t : TunnelId} {s r q : State} (h : ActsAt t s r) (h' : ActsAt t r q) : ActsAt t s q :=
  ⟨h.frame.trans h'.frame, fun t' n => (h'.others t' n).trans (h.others t' n)⟩

theorem ActsAt.ite {t : TunnelId} {s a b : State} {c : Prop} [Decidable c] (h : ActsAt t s a) (h' : ActsAt t s b) :
    ActsAt t s (if c then a else b) := by
  split
  · exact h
  · exact h'

/-- What an event at a tunnel leaves alone, field by field. -/
theorem ActsAt.fields {t : TunnelId} {s r : State} (h : ActsAt t s r) :
    r.rstLow = s.rstLow ∧ r.tick = s.tick ∧ r.clock = s.clock ∧ r.profiles = s.profiles ∧ r.uplinks = s.uplinks
      ∧ r.groupFlags = s.groupFlags ∧ r.pointers = s.pointers ∧ r.holding = s.holding ∧ r.label = s.label
      ∧ r.officeTx = s.officeTx ∧ r.progress = s.progress ∧ r.pending = s.pending := by
  have e := h.frame
  exact ⟨(congrArg State.rstLow e :), (congrArg State.tick e :), (congrArg State.clock e :), (congrArg State.profiles e :),
    (congrArg State.uplinks e :), (congrArg State.groupFlags e :), (congrArg State.pointers e :), (congrArg State.holding e :),
    (congrArg State.label e :), (congrArg State.officeTx e :), (congrArg State.progress e :), (congrArg State.pending e :)⟩

/-! ### The steps that operations are made of -/

theorem setTun_acts (t : TunnelId) (x : Tunnel) (s : State) : ActsAt t s (s.setTun t x) :=
  ⟨rfl, fun _ n => State.tun_setTun_ne s x n⟩

theorem modTun_acts (t : TunnelId) (f : Tunnel → Tunnel) (s : State) : ActsAt t s (s.modTun t f) := setTun_acts t _ s

theorem modHealth_acts (t : TunnelId) (f : Health → Health) (s : State) : ActsAt t s (s.modHealth t f) := modTun_acts t _ s

theorem modTunCounters_acts (t : TunnelId) (f : TunnelCounters → TunnelCounters) (s : State) :
    ActsAt t s (s.modTunCounters t f) := modTun_acts t _ s

theorem postTunnel_acts (k : FaultKind) (t : TunnelId) (d : BitVec 32) (s : State) : ActsAt t s (postTunnel k t d s) :=
  ⟨(congrArg (fun x : State => { x with
      tunnels := s.tunnels, waiting := s.waiting, kduQueue := s.kduQueue, kduFlight := s.kduFlight, draws := s.draws
      lfsr := s.lfsr }) (post_frame k (some t.val) d s)), fun t' _ => post_tun k (some t.val) d s t'⟩

theorem draws_acts (t : TunnelId) (n : Nat) (s : State) : ActsAt t s { s with draws := n } := ⟨rfl, fun _ _ => rfl⟩

theorem enqueue_acts (t : TunnelId) (f : CarrierFrame) (s : State) : ActsAt t s (enqueue t f s) := by
  refine ⟨?_, fun t' n => enqueue_tun_ne t f s n⟩
  by_cases h : (s.tun t).egress = []
  · rw [enqueue_of_empty t f s h]
    rfl
  · rw [enqueue_of_waiting t f s h]
    rfl

theorem flush_acts (t : TunnelId) (s : State) : ActsAt t s (flush t s) := ⟨rfl, fun _ n => flush_tun_ne t s n⟩

theorem sendCurrent_acts {t : TunnelId} {kind : BitVec 4} {body : List Byte} {s r : State}
    (h : sendCurrent t kind body s = some r) : ActsAt t s r := by
  obtain ⟨c, -, -, -, rfl⟩ := sendCurrent_some h
  exact (setTun_acts t _ s).trans (enqueue_acts t _ _)

theorem sendOffer_acts {t : TunnelId} {target : BitVec 8} {nonce : BitVec 128} {s r : State}
    (h : sendOffer t target nonce s = some r) : ActsAt t s r := by
  obtain ⟨g, -, -, -, rfl⟩ := sendOffer_some h
  exact (setTun_acts t _ s).trans (enqueue_acts t _ _)

/-! ### The derivation queue -/

theorem abortDerivation_acts (t : TunnelId) (s : State) : ActsAt t s (abortDerivation t s) := ⟨rfl, fun _ _ => rfl⟩

theorem abortGeneration_acts (t : TunnelId) (s : State) : ActsAt t s (abortGeneration t s) := ⟨rfl, fun _ _ => rfl⟩

theorem queueDerivation_acts (t : TunnelId) (k : DerivationKind) (s : State) : ActsAt t s (queueDerivation t k s) :=
  ⟨rfl, fun _ _ => rfl⟩

/-- After an abort no entry of the queue and no derivation in flight belongs to the tunnel. -/
theorem abortDerivation_clear (t : TunnelId) (s : State) :
    (∀ e ∈ (abortDerivation t s).kduQueue, e.tunnel ≠ t) ∧ ∀ d ∈ (abortDerivation t s).kduFlight, d.owner ≠ some t := by
  refine ⟨fun e he => ?_, fun d hd => ?_⟩
  · simpa using (List.mem_filter.mp he).2
  · simp only [abortDerivation, Option.mem_def, Option.map_eq_some_iff] at hd
    obtain ⟨d0, -, rfl⟩ := hd
    split
    · simp
    · assumption

/-- The unit starts an entry, or does nothing: tunnels and everything outside the unit stay. -/
theorem startDerivation_frame (s : State) :
    { startDerivation s with kduQueue := s.kduQueue, kduFlight := s.kduFlight } = s := by
  unfold startDerivation
  split
  · split <;> rfl
  · rfl

/-- A busy unit starts nothing. -/
theorem startDerivation_busy (s : State) (h : s.kduFlight.isSome) : startDerivation s = s := by
  unfold startDerivation
  split
  · simp_all
  · rfl

/-! ### The exchange -/

theorem exhaustSecret_acts (t : TunnelId) (s : State) : ActsAt t s (exhaustSecret t s) :=
  (((abortDerivation_acts t s).trans (flush_acts t _)).trans (modTun_acts t _ _)).trans (postTunnel_acts _ t _ _)

theorem holdNonce_acts (t : TunnelId) (n : BitVec 128) (s : State) : ActsAt t s (holdNonce t n s) := modTun_acts t _ s

/-- All that an attempt can change. -/
theorem attempt_acts (t : TunnelId) (target : BitVec 8) (s : State) : ActsAt t s (attempt t target s) := by
  unfold attempt
  simp only []
  split
  · exact (draws_acts t _ s).trans (holdNonce_acts t _ _)
  · rename_i s2 h
    have e := (draws_acts t (s.draws + 1) s).trans (sendOffer_acts h)
    split
    · exact e.trans (exhaustSecret_acts t _)
    · exact e.trans (holdNonce_acts t _ _)

theorem startInitialKeying_acts (t : TunnelId) (s : State) : ActsAt t s (startInitialKeying t s) := by
  unfold startInitialKeying
  split
  · exact (modTun_acts t _ s).trans (attempt_acts t 1 _)
  · exact .refl t s

/-- Only an enabled UNKEYED tunnel starts initial keying. -/
theorem startInitialKeying_idle (t : TunnelId) (s : State)
    (h : ¬ ((s.tun t).cfg.enabled = true ∧ (s.tun t).keyState = .unkeyed)) : startInitialKeying t s = s := by
  simp [startInitialKeying, h]

theorem startRenewal_acts (t : TunnelId) (s : State) : ActsAt t s (startRenewal t s) := by
  unfold startRenewal
  split
  · split
    · exact (modTun_acts t _ s).trans (attempt_acts t _ _)
    · exact .refl t s
  · exact .refl t s

/-- Only a KEYED, PENDING or HELD tunnel starts a renewal. -/
theorem startRenewal_idle (t : TunnelId) (s : State) (h : (s.tun t).keyState.renewable = false) : startRenewal t s = s := by
  unfold startRenewal
  split
  · simp [h]
  · rfl

theorem failExchange_acts (t : TunnelId) (target : BitVec 8) (s : State) : ActsAt t s (failExchange t target s) := by
  unfold failExchange
  exact ((modTun_acts t _ s).trans (postTunnel_acts _ t _ _)).trans (modTun_acts t _ _)

theorem takeAccept_acts (t : TunnelId) (target : BitVec 8) (nonce shopNonce : BitVec 128) (s : State) :
    ActsAt t s (takeAccept t target nonce shopNonce s) := by
  unfold takeAccept
  split
  · exact (queueDerivation_acts t _ s).trans (modTun_acts t _ _)
  · exact modTunCounters_acts t _ s

theorem takeAsk_acts (t : TunnelId) (s : State) : ActsAt t s (takeAsk t s) := by
  unfold takeAsk
  split
  · exact startRenewal_acts t s
  · exact startInitialKeying_acts t s

theorem completeBootstrap_acts (t : TunnelId) (i : KdfInputs) (s : State) : ActsAt t s (completeBootstrap t i s) := by
  unfold completeBootstrap
  split
  · simp only []
    split
    · exact modTun_acts t _ s
    · exact (modTun_acts t _ s).trans (startInitialKeying_acts t _)
  · exact .refl t s

/-! ### Erasing and disabling -/

theorem eraseGenerations_acts (t : TunnelId) (s : State) : ActsAt t s (eraseGenerations t s) := by
  unfold eraseGenerations
  simp only []
  split
  · exact ((modTun_acts t _ s).trans (flush_acts t _)).trans (modTun_acts t _ _)
  · exact (((abortGeneration_acts t s).trans (modTun_acts t _ _)).trans (flush_acts t _)).trans (modTun_acts t _ _)

theorem eraseAll_acts (t : TunnelId) (s : State) : ActsAt t s (eraseAll t s) :=
  ((eraseGenerations_acts t s).trans (abortDerivation_acts t _)).trans (modTun_acts t _ _)

theorem installSecret_acts (t : TunnelId) (m : MasterSecret) (s : State) : ActsAt t s (installSecret t m s) :=
  (((abortDerivation_acts t s).trans (flush_acts t _)).trans (modTun_acts t _ _)).trans (queueDerivation_acts t _ _)

theorem disableTunnel_acts (t : TunnelId) (s : State) : ActsAt t s (disableTunnel t s) :=
  ((abortGeneration_acts t s).trans (flush_acts t _)).trans (modTun_acts t _ _)

/-! ### The Renewal Scheduler -/

theorem enterPending_acts (t : TunnelId) (s : State) : ActsAt t s (enterPending t s) := by
  unfold enterPending
  exact ActsAt.trans (r := { s with lfsr := lfsrStep s.lfsr }) ⟨rfl, fun _ _ => rfl⟩ (modTun_acts t _ _)

theorem dueTest_acts (t : TunnelId) (s : State) : ActsAt t s (dueTest s t) := by
  unfold dueTest
  split
  · split
    · split
      · exact modTun_acts t _ s
      · exact enterPending_acts t s
    · exact .refl t s
  · exact .refl t s

theorem closingTest_acts (t : TunnelId) (s : State) : ActsAt t s (closingTest t s) := by
  unfold closingTest
  split
  · split
    · exact enterPending_acts t s
    · exact .refl t s
  · exact .refl t s

end Sys2Proof.Machine
end

