-- ==== Sys2Proof/Laws/Monitor.lean ====
section
/-! SUPPORT. What the operations of the Health Monitor and of the trading-state logic can change: each acts at one tunnel. -/

namespace Sys2Proof.Machine

/-! ### The Health Monitor -/

theorem armProbe_acts (t : TunnelId) (s : State) : ActsAt t s (armProbe t s) := modHealth_acts t _ s

theorem releaseDelay_acts (t : TunnelId) (c : BitVec 32) (s : State) : ActsAt t s (releaseDelay t c s) :=
  (postTunnel_acts _ t c s).trans (modHealth_acts t _ _)

theorem silentReleased_acts (t : TunnelId) (s : State) : ActsAt t s (silentReleased t s) := by
  unfold silentReleased
  split
  · exact startRenewal_acts t s
  · exact .refl t s

theorem releaseSilent_acts (t : TunnelId) (c : BitVec 32) (s : State) : ActsAt t s (releaseSilent t c s) :=
  ((postTunnel_acts _ t c s).trans (modHealth_acts t _ _)).trans (silentReleased_acts t _)

theorem takeMiss_acts (t : TunnelId) (n : BitVec 8) (s : State) : ActsAt t s (takeMiss t n s) := by
  unfold takeMiss
  simp only []
  split
  · exact .refl t s
  · split
    · exact modHealth_acts t _ s
    · exact (modHealth_acts t _ s).trans (postTunnel_acts _ t _ _)

theorem missTest_acts (t : TunnelId) (b : Bool) (s : State) : ActsAt t s (missTest t b s) := by
  unfold missTest
  split
  · split
    · exact .refl t s
    · exact takeMiss_acts t _ s
  · exact .refl t s

/-- All that a probe attempt can change. -/
theorem attemptProbe_acts (t : TunnelId) (b : Bool) (s : State) : ActsAt t s (attemptProbe t b s) := by
  unfold attemptProbe
  split
  · simp only []
    split
    · exact .refl t s
    · rename_i s1 h
      exact ((sendCurrent_acts h).trans (missTest_acts t b _)).trans (modHealth_acts t _ _)
  · exact .refl t s

/-- Without an Up member in the group no probe is requested. -/
theorem attemptProbe_dead (t : TunnelId) (b : Bool) (s : State) (h : s.groupLive (s.tun t).cfg.activeGroup = false) :
    attemptProbe t b s = s := by simp [attemptProbe, h]

theorem seedSample_acts (t : TunnelId) (n : Nat) (s : State) : ActsAt t s (seedSample t n s) := by
  unfold seedSample
  simp only []
  split
  · exact modHealth_acts t _ s
  · split
    · exact modHealth_acts t _ s
    · exact (modHealth_acts t _ s).trans (postTunnel_acts _ t _ _)

theorem baselineStep_acts (t : TunnelId) (n : Nat) (s : State) : ActsAt t s (baselineStep t n s) := by
  unfold baselineStep
  simp only []
  split
  · split
    · exact modHealth_acts t _ s
    · exact ((modHealth_acts t _ s).trans (postTunnel_acts _ t _ _)).trans (modHealth_acts t _ _)
  · exact modHealth_acts t _ s

theorem decideDelay_acts (t : TunnelId) (n : Nat) (s : State) : ActsAt t s (decideDelay t n s) := by
  unfold decideDelay
  simp only []
  split
  · exact (modHealth_acts t _ s).trans (baselineStep_acts t n _)
  · exact .ite (modHealth_acts t _ s) ((modHealth_acts t _ s).trans (postTunnel_acts _ t _ _))

theorem decideRelease_acts (t : TunnelId) (s : State) : ActsAt t s (decideRelease t s) := by
  unfold decideRelease
  simp only []
  split
  · exact (modHealth_acts t _ s).trans (releaseDelay_acts t _ _)
  · split
    · exact (modHealth_acts t _ s).trans (releaseDelay_acts t _ _)
    · exact modHealth_acts t _ s

theorem filterSample_acts (t : TunnelId) (n : Nat) (s : State) : ActsAt t s (filterSample t n s) := by
  unfold filterSample
  simp only []
  split
  · exact (modHealth_acts t _ s).trans (decideRelease_acts t _)
  · exact (modHealth_acts t _ s).trans (decideDelay_acts t n _)

/-- All that a sample can change. -/
theorem takeSample_acts (t : TunnelId) (n : Nat) (s : State) : ActsAt t s (takeSample t n s) := by
  unfold takeSample
  split
  · exact seedSample_acts t n s
  · exact filterSample_acts t n s
  · exact filterSample_acts t n s
  · exact filterSample_acts t n s
  · exact .refl t s
  · exact .refl t s
  · exact .refl t s

theorem takeEcho_acts (t : TunnelId) (n : BitVec 8) (a : BitVec 32) (s : State) : ActsAt t s (takeEcho t n a s) := by
  unfold takeEcho
  simp only []
  have e : ActsAt t s (if (s.tun t).health.state = .faultedSilent then releaseSilent t 3 s else s) :=
    .ite (releaseSilent_acts t 3 s) (.refl t s)
  split
  · exact e
  · exact .ite ((e.trans (modHealth_acts t _ _)).trans (takeSample_acts t _ _)) e

theorem healthShopChange_acts (t : TunnelId) (old new : ShopState) (s : State) :
    ActsAt t s (healthShopChange t old new s) := by
  unfold healthShopChange
  split
  · exact .refl t s
  · have e : ActsAt t s (if (old = .closed) ↔ (new = .closed) then s else armProbe t s) :=
      .ite (.refl t s) (armProbe_acts t s)
    exact .ite (ActsAt.trans (.ite (e.trans (releaseSilent_acts t 4 _)) e) (modHealth_acts t _ _)) e

/-! ### The switch -/

theorem switchKeys_acts (t : TunnelId) (g : BitVec 8) (i : KdfInputs) (s : State) : ActsAt t s (switchKeys t g i s) := by
  unfold switchKeys
  simp only []
  refine ActsAt.trans ?_ (modTun_acts t _ _)
  split
  · exact postTunnel_acts _ t _ s
  · exact .refl t s

/-- All that a switch can change. -/
theorem switchGeneration_acts (t : TunnelId) (g : BitVec 8) (i : KdfInputs) (s : State) :
    ActsAt t s (switchGeneration t g i s) :=
  ((switchKeys_acts t g i s).trans (attemptProbe_acts t true _)).trans (armProbe_acts t _)

/-- After a switch the tunnel is KEYED under its target. -/
theorem switchKeys_keyed (t : TunnelId) (g : BitVec 8) (i : KdfInputs) (s : State) :
    ((switchKeys t g i s).tun t).keyState = .keyed ∧ ((switchKeys t g i s).tun t).cur.map CurGen.number = some g := by
  simp [switchKeys, State.modTun]

/-! ### The trading-state logic -/

theorem armDormancy_acts (t : TunnelId) (s : State) : ActsAt t s (armDormancy t s) := modTun_acts t _ s

theorem clearRest_acts (t : TunnelId) (s : State) : ActsAt t s (clearRest t s) := by
  unfold clearRest
  split
  · exact .ite ((modTun_acts t _ s).trans (armDormancy_acts t _)) (modTun_acts t _ s)
  · exact .refl t s

theorem dataActivity_acts (t : TunnelId) (s : State) : ActsAt t s (dataActivity t s) := by
  unfold dataActivity
  split
  · exact armDormancy_acts t s
  · exact .refl t s

theorem encipherData_acts (t : TunnelId) (c : CurGen) (f : EthFrame) (s : State) : ActsAt t s (encipherData t c f s) :=
  ((modTun_acts t _ s).trans (enqueue_acts t _ _)).trans (dataActivity_acts t _)

/-- All that a wake can change. -/
theorem wake_acts (t : TunnelId) (s : State) : ActsAt t s (wake t s) := by
  unfold wake
  refine .ite ?_ (.refl t s)
  have e := ActsAt.ite (c := (s.tun t).cur.isSome = true)
    ((modTun_acts t (fun x => { x with dormant := false }) s).trans (modTun_acts t
      (fun x => { x with renewBefore := true, health := { x.health.toSeeding with expiry := some s.tick } }) _))
    ((modTun_acts t (fun x => { x with dormant := false }) s).trans (startInitialKeying_acts t _))
  exact .ite (e.trans (armDormancy_acts t _)) e

/-- A tunnel that is awake does not wake. -/
theorem wake_awake (t : TunnelId) (s : State) (h : (s.tun t).dormant = false) : wake t s = s := by simp [wake, h]

theorem dormancyShopChange_acts (t : TunnelId) (new : ShopState) (s : State) : ActsAt t s (dormancyShopChange t new s) := by
  unfold dormancyShopChange
  split
  · split
    · exact armDormancy_acts t s
    · exact .refl t s
  · exact modTun_acts t _ s

/-- All that a change of shop state can change. -/
theorem changeShop_acts (t : TunnelId) (new : ShopState) (s : State) : ActsAt t s (changeShop t new s) := by
  have m := modTun_acts t (fun x => { x with shop := new }) s
  have w := (ActsAt.ite (c := (s.tun t).shop = .closed) (m.trans (wake_acts t _)) m).trans
    (healthShopChange_acts t (s.tun t).shop new _)
  exact (ActsAt.ite (w.trans (closingTest_acts t _)) w).trans (dormancyShopChange_acts t new _)

theorem setShop_acts (t : TunnelId) (new : ShopState) (s : State) : ActsAt t s (setShop t new s) := by
  unfold setShop
  split
  · exact .refl t s
  · exact changeShop_acts t new s

theorem enableTunnel_acts (t : TunnelId) (s : State) : ActsAt t s (enableTunnel t s) := by
  unfold enableTunnel
  simp only []
  refine ActsAt.trans ?_ (startInitialKeying_acts t _)
  split
  · exact (modTun_acts t _ s).trans (armDormancy_acts t _)
  · exact modTun_acts t _ s

theorem snoop_acts (t : TunnelId) (f : EthFrame) (s : State) : ActsAt t s (snoop t f s) := by
  unfold snoop
  split
  · split
    · exact setShop_acts t _ s
    · exact .refl t s
  · exact .refl t s

/-- All that the tunnel checks of an office frame can change. -/
theorem tunnelChecks_acts (t : TunnelId) (f : EthFrame) (s : State) : ActsAt t s (tunnelChecks t f s) := by
  unfold tunnelChecks
  split
  · simp only []
    refine (wake_acts t s).trans ?_
    split
    · unfold dropNoKey
      simp only []
      split
      · exact (modTunCounters_acts t _ _).trans (startInitialKeying_acts t _)
      · exact modTunCounters_acts t _ _
    · unfold checkAndEncipher
      simp only []
      split
      · exact (modTunCounters_acts t _ _).trans (postTunnel_acts _ t _ _)
      · split
        · exact (modTunCounters_acts t _ _).trans (postTunnel_acts _ t _ _)
        · exact encipherData_acts t _ f _
  · exact modTunCounters_acts t _ s

end Sys2Proof.Machine
end

