-- ==== Sys2Proof/Tests/Slice0.lean ====
section
/-! SUPPORT. Tests of the bridge: the WellFormed smoke, single steps from the manual's worked examples, and for each statement with
hypotheses a witness that meets them. Every expected value is the manual's own, or is worked from its rules by hand. -/

namespace Sys2Proof.Tests

open Sys2Proof.Machine

-- One theorem is checked at a time: the checks together would hold many states in memory at once.
set_option Elab.async false

/-! ### The pieces the tests are built from -/

/-- The state after a command. -/
def after (c : Instr) (s : State) : State :=
  match exec c s with
  | .next s' => s'
  | .fault _ => s
  | .refused _ => s

/-- A command's header, from station 02:00:00:00:0A:01. -/
def hdr : CmdHeader := { source := 0x020000000A01, tag := 7 }

/-- The bridge at tick 5000 after a reset, its RESET flag acknowledged. -/
def base : State := { State.afterReset 0 with tick := 5000, clock := 500000, flags := 0, faultInd := true, reportExpiry := none }

/-- The bridge while RST_N is low. -/
def low : State := { base with rstLow := true }

/-- The context of a generation, with numbers 1 and 3 seen. -/
def ctx (k : BitVec 256) : KeyContext := { key := k, salt := 0x11223344, window := { high := 3, seen := [3, 1] } }

/-- Generation 14, a hundred frames and ten seconds old. -/
def gen14 : CurGen := { number := 14, ctx := ctx 14, lastSeq := 100, age := 10, nextAge := 5100 }

/-- Generation 0 of epoch 3. -/
def boot : Gen0 := { epoch := 3, ctx := ctx 1, lastSeq := 1 }

/-- A Normal health record at rest at 20.0 ms. -/
def healthy : Health :=
  { Health.reset with state := .normal, expiry := some 5000, refSeed := 200, fast := 3200, slow := 3200, base := 3200 }

/-- An enabled KEYED tunnel. -/
def keyed : Tunnel :=
  { Tunnel.reset with
    cfg := { TunnelConfig.reset with enabled := true, peer := 0x020000000B01 }
    keyState := .keyed
    secret := some { secret := 99, epoch := 3 }
    gen0 := some boot
    cur := some gen14
    shop := .opened
    health := healthy }

/-- An enabled UNKEYED tunnel. -/
def unkeyed : Tunnel := { keyed with keyState := .unkeyed, cur := none, health := Health.reset }

/-- An OFFERING tunnel whose response allowance ends at tick 5000. -/
def offering : Tunnel :=
  { unkeyed with keyState := .offering 1, attempts := 1, nonce := some { value := 77, expiry := 5000 } }

/-- A KEYED tunnel of a Closed shop whose dormancy expiry is due. -/
def closing : Tunnel :=
  { keyed with
    shop := .closed, dormancyExpiry := some 5000
    health := { healthy with expiry := some 5100 } }

/-- A dormant KEYED tunnel. -/
def dormantKeyed : Tunnel := { keyed with shop := .closed, dormant := true, health := Health.reset }

/-- A dormant tunnel whose keys were erased. -/
def dormantUnkeyed : Tunnel := { dormantKeyed with keyState := .unkeyed, cur := none }

/-- A HELD tunnel that is Faulted(Silent), its probe 42 outstanding. -/
def silentHeld : Tunnel :=
  { keyed with
    keyState := .held
    health := { healthy with state := .faultedSilent, miss := 4, outstanding := some { number := 42, departure := 499720 } } }

/-- The bridge with tunnel 86 as given. -/
def with86 (x : Tunnel) : State := base.setTun 86 x

/-- A frame of 10 data bytes under generation 14, as tunnel 86's egress queue holds it. -/
def queued : CarrierFrame := currentFrame (with86 keyed) 86 gen14 kindData (List.replicate 14 0)

/-- The bridge with tunnel 86's frames waiting on group 0 and uplink 0 Up. -/
def waitingState (frames : List CarrierFrame) : State :=
  ((with86 { keyed with egress := frames }).setList 0 [86]).setUplink 0 { Uplink.reset with link := .up, carrier := true }

/-- An IPv4 frame to `a.b.c.d`, with what follows the address given. -/
def ipFrame (a b c d : Byte) (rest : List Byte) : EthFrame where
  bytes := List.replicate 12 0 ++ [0x08, 0x00, 0x45] ++ List.replicate 8 0 ++ [17] ++ List.replicate 6 0 ++ [a, b, c, d] ++ rest
    ++ List.replicate (30 - rest.length) 0

/-- An IPv4 frame that is no status message. -/
def plain (a b c d : Byte) : EthFrame := ipFrame a b c d []

/-- A store status datagram to UDP port 4450 with payload 0x53 0x54 and a code (R16). -/
def statusFrame (a b c d code : Byte) : EthFrame :=
  ipFrame a b c d [0, 0, 0x11, 0x62, 0, 11, 0, 0, 0x53, 0x54, code]

/-- The interval table of the regional example (section 1.3). -/
def regional : Vector Interval 48 :=
  (((((vecConst 48 Interval.reset).set 0 { separator := 9600, action := .drop, base := 0 }).set 1
    { separator := 9856, action := .tunnel, base := 0 }).set 2 { separator := 10368, action := .tunnel, base := 256 }).set 3
    { separator := 10624, action := .tunnel, base := 900 })

/-- The bridge under the regional table with a frame held. -/
def holdingState (f : EthFrame) (x : Tunnel) : State :=
  { with86 x with intervals := regional, statusPort := 4450, holding := [f] }

/-- A management frame of this bridge with a command code and a payload. -/
def mgmtFrame (label : BitVec 16) (code : Byte) (payload : List Byte) : EthFrame where
  bytes := bytes48 0x024C58000000 ++ bytes48 0x020000000A01 ++ [0x88, 0xB5] ++ bytes16 label ++ [code, 0, 0, 7]
    ++ num16 payload.length ++ payload ++ List.replicate (38 - payload.length) 0

/-- A shop's frame of tunnel 86 under a context: kind, generation, sequence number, epoch and body. -/
def shopFrame (k : KeyContext) (kind : BitVec 4) (gen : BitVec 8) (seq : BitVec 32) (epoch : BitVec 16) (body : List Byte) :
    CarrierFrame :=
  outerFrame 0x024C58000000 0x020000000B01 kind gen 86 seq epoch k.key (inboundSalt k.salt) body

/-- The bridge with a frame delivered by uplink 0, tunnel 86 as given. -/
def inboundState (f : CarrierFrame) (x : Tunnel) : State :=
  (with86 x).setUplink 0 { Uplink.reset with delivered := [{ frame := f, arrival := 500000 }] }

/-! ### WellFormed -/

theorem test_wellFormed_ethFrame :
    (Instr.officeFrameArrival { frame := { bytes := [], wrap := some ⟨0, 0, 0⟩ }, fcsOk := true, prov := false }).wellFormed
      = false := by decide

theorem test_wellFormed_carrier_head :
    (Instr.uplinkFrameReceive 0 ⟨0, 0, 0, List.replicate 13 0, none, List.replicate 50 0⟩ true 0).wellFormed = false := by decide

theorem test_wellFormed_carrier_short :
    (Instr.uplinkFrameReceive 0 ⟨0, 0, 0, [], none, List.replicate 50 0⟩ true 0).wellFormed = false := by decide

theorem test_wellFormed_carrier_cipher :
    (Instr.uplinkFrameReceive 0 ⟨0, 0, 0, List.replicate 11 0, some ⟨0, 0, [], [0]⟩, []⟩ true 0).wellFormed = false := by decide

theorem test_wellFormed_header :
    (Instr.identify { hdr with broadcast := some { bytes := [] } }).wellFormed = false := by decide

theorem test_wellFormed_broadcast_label :
    (Instr.identify { hdr with broadcast := some (mgmtFrame 0 1 []) }).wellFormed = false := by decide

theorem test_wellFormed_broadcast_good :
    (Instr.identify { hdr with broadcast := some (mgmtFrame 0xFFFF 1 []) }).wellFormed = true := by decide

theorem test_wellFormed_profile :
    (Instr.writeProfile hdr 0 { Profile.default with rateBeta := 256 }).wellFormed = false
      ∧ (Instr.writeProfile hdr 0 { Profile.default with grace := 65536 }).wellFormed = false
      ∧ (Instr.writeProfile hdr 0 { Profile.default with frameLimit := 4294967296 }).wellFormed = false
      ∧ (Instr.writeProfile hdr 0 Profile.default).wellFormed = true := by decide

/-! ### The queue -/

theorem test_step_idle : step State.reset = .next State.reset := rfl

theorem test_step_tick : ∃ s, step { base with pending := [.tick, .tick] } = .next s ∧ s.tick = 5001 ∧ s.pending = [.tick] :=
  ⟨_, rfl, rfl, rfl⟩

theorem test_tick_phase : (after .tick { base with phase := 9, tick := 0xFFFFFFFF }).tick = 0
    ∧ (after .tick { base with phase := 9, tick := 0xFFFFFFFF }).phase = 0
    ∧ (after .tick { base with phase := 9, tick := 0xFFFFFFFF }).intervalEnd = true := by decide +kernel

/-! ### Classification (section 1.3 and 1.5) -/

theorem test_store_key : storeKey 8 (plain 10 37 214 9) = 9686 ∧ storeKey 8 (plain 10 39 16 4) = 10000 ∧
    storeKey 8 (plain 10 40 235 1) = 10475 ∧ storeKey 8 (plain 10 41 4 1) = 10500 ∧ storeKey 8 (plain 10 19 136 7) = 5000 ∧
    storeKey 8 (plain 10 78 32 2) = 20000 := by decide +kernel

theorem test_store_key_edges : storeKey 0 (plain 10 37 214 9) = 0x0A25 ∧ storeKey 16 (plain 10 37 214 9) = 0xD609 := by
  decide +kernel

theorem test_regional_entries : coveringEntry regional 9686 = some 1 ∧ coveringEntry regional 10000 = some 2 ∧
    coveringEntry regional 10500 = some 3 ∧ coveringEntry regional 5000 = some 0 ∧ coveringEntry regional 65534 = some 4 ∧
    coveringEntry regional 65535 = some 47 := by decide +kernel

theorem test_lookup_enciphers : let s := after .lookupTakeFrame (holdingState (plain 10 37 214 9) keyed)
    (s.tun 86).egress.length = 1 ∧ (s.tun 86).cur.map CurGen.lastSeq = some 101 ∧ (s.tun 86).sample = 1
      ∧ s.list 0 = [86] ∧ s.holding = [] := by decide +kernel

theorem test_lookup_map_range : let s := after .lookupTakeFrame (holdingState (plain 10 41 4 1) keyed)
    s.counters.mapRange = 1 ∧ s.faults.map FaultRecord.subject = [some 3] ∧ s.faults.map FaultRecord.detail = [10500] := by
  decide +kernel

theorem test_status_closing : let s := after .lookupTakeFrame (holdingState (statusFrame 10 37 214 9 2) keyed)
    (s.tun 86).shop = .closing ∧ (s.tun 86).egress.length = 1 := by decide +kernel

theorem test_status_bad_code : statusMessage 4450 0x5354 (statusFrame 10 37 214 9 7) = none
    ∧ statusMessage 4450 0x5354 (statusFrame 10 37 214 9 3) = some .closed
    ∧ statusMessage 0 0x5354 (statusFrame 10 37 214 9 3) = none := by decide +kernel

/-! ### The end of a generation's budget (section 3.1) -/

theorem test_budget : let p := { Profile.default with frameLimit := 1048576 }
    CurGen.exhausted { gen14 with lastSeq := 1048559 } p = false ∧ CurGen.exhausted { gen14 with lastSeq := 1048560 } p = true
      ∧ CurGen.spent { gen14 with lastSeq := 1048575 } p = false ∧ CurGen.spent { gen14 with lastSeq := 1048576 } p = true := by
  decide

/-! ### The replay window (section 3.3) -/

theorem test_window_example : Window.empty.accepting [1, 3, 2, 2, 70, 5, 7, 9] = [1, 3, 2, 70, 7, 9] := by decide

theorem test_window_verdicts : let w : Window := { high := 70, seen := [70] }
    w.judge 6 = .tooOld ∧ w.judge 7 = .accept ∧ w.judge 70 = .replay ∧ w.judge 71 = .accept := by decide

theorem test_inbound_replay :
    let s := after (.inboundTunnelFrame 0) (inboundState (shopFrame (ctx 14) kindEcho 14 3 0 [1, 0, 0, 0]) keyed)
    (s.tun 86).counters.replay = 1 ∧ s.faults.map FaultRecord.detail = [3] := by decide +kernel

theorem test_inbound_echo_answers_probe :
    let x := { keyed with health := { healthy with outstanding := some { number := 42, departure := 499720 } } }
    let s := after (.inboundTunnelFrame 0) (inboundState (shopFrame (ctx 14) kindEcho 14 4 0 [42, 0, 0, 0]) x)
    (s.tun 86).health.outstanding = none ∧ (s.tun 86).health.fast = 3520 ∧ (s.tun 86).health.slow = 3280
      ∧ (s.tun 86).health.base = 3220 ∧ (s.tun 86).health.comp = 320 := by decide +kernel

/-! ### The rate filter, the due tests and the draws (chapter 5) -/

theorem test_rate_example : rateFilter 2400 310 32 = 2720 ∧ rateFilter 2720 170 32 = 2720 ∧ rateFilter 2720 0 32 = 2380 ∧
    rateFilter 2380 0 32 = 2083 ∧ rateFilter 23 1 32 = 23 := by decide

theorem test_lead_time : let p := { Profile.default with frameLimit := 2000000 }
    let s := { base with jitterBase := 50, jitterRange := 200 }
    leadTime s p = 709 ∧ leadTime base p = 460 ∧ horizon 2720 709 = 12053 ∧ horizon 1048560 180069 = 1180082192
      ∧ renewalDue { gen14 with lastSeq := 1987930 } p 2720 709 = false
      ∧ renewalDue { gen14 with lastSeq := 1987931 } p 2720 709 = true
      ∧ renewalDue { gen14 with age := 28792 } p 0 709 = false ∧ renewalDue { gen14 with age := 28793 } p 0 709 = true := by
  decide

theorem test_draws : lfsrRun 1 1 = 0xB400 ∧ lfsrRun 2 1 = 0x5A00 ∧ lfsrRun 3 1 = 0x2D00 ∧ lfsrRun 4 1 = 0x1680 ∧
    [1, 2, 3, 4, 5, 6, 7, 8].map (fun k => 50 + (lfsrRun k 1).toNat % 200) = [130, 90, 170, 210, 130, 90, 170, 210] := by decide

/-! ### Health (sections 7.7 and 8.3) -/

/-- The state with tunnel 86 at a health record. -/
def withHealth (h : Health) : State := with86 { keyed with health := h }

theorem test_sample_four : let s := takeSample 86 280 (withHealth { healthy with fast := 3940, slow := 3425, base := 3258 })
    (s.tun 86).health.comp = 817 ∧ (s.tun 86).health.state = .suspect ∧ (s.tun 86).health.suspect = 1
      ∧ (s.tun 86).health.base = 3258 := by decide +kernel

theorem test_sample_six :
    let s := takeSample 86 280 (withHealth { healthy with state := .suspect, suspect := 2, fast := 4176, slow := 3551, base := 3258 })
    (s.tun 86).health.state = .faultedDelay ∧ s.faults.map FaultRecord.detail = [994] ∧ s.flags = 2 := by decide +kernel

theorem test_release_by_threshold :
    let s := takeSample 86 200 (withHealth
      { healthy with state := .faultedDelay, fast := 4158, slow := 4232, base := 3258, settle := 11, snapshot := some 1219 })
    (s.tun 86).health.state = .seeding ∧ s.faults.map FaultRecord.detail = [1] := by decide +kernel

theorem test_stays_faulted :
    let s := takeSample 86 200 (withHealth
      { healthy with state := .faultedDelay, fast := 4477, slow := 4300, base := 3258, settle := 10, snapshot := some 1219 })
    (s.tun 86).health.state = .faultedDelay ∧ (s.tun 86).health.fast = 4158 ∧ (s.tun 86).health.slow = 4232
      ∧ (s.tun 86).health.settle = 11 := by decide +kernel

theorem test_release_by_snapshot : let p := { Profile.default with releasePct := 32 }
    let s := takeSample 86 400 { withHealth
      { healthy with state := .faultedDelay, fast := 9999, slow := 11938, base := 3200, settle := 10, snapshot := some 9597 } with
      profiles := vecConst 16 p }
    (s.tun 86).health.state = .seeding ∧ s.faults.map FaultRecord.detail = [2] := by decide +kernel

theorem test_seed_error :
    let s := takeSample 86 400 { withHealth { Health.reset with state := .seeding, seeds := [0, 0, 0, 0, 0, 0, 0] } with
      profiles := vecConst 16 { Profile.default with seedMin := 51 } }
    (s.tun 86).health.state = .unseeded ∧ s.faults.map FaultRecord.detail = [50] := by decide +kernel

/-- Tunnel 86 a Follower of tunnel 1000, whose D is 810. -/
def followed : State :=
  (with86 { keyed with cfg := { keyed.cfg with role := .follower, reference := 1000 } }).setTun 1000
    { keyed with cfg := { keyed.cfg with role := .reference }, health := { healthy with dev := 810 } }

theorem test_follower : compensation followed 86 = 810 ∧ compensation followed 1000 = 0 := by decide +kernel

/-- Any valid ECHO releases a Silent fault with detail 3, and a HELD tunnel's renewal starts (R74, R123). -/
theorem test_echo_releases : let s := takeEcho 86 9 500000 (with86 silentHeld)
    (s.tun 86).health.state = .seeding ∧ (s.tun 86).keyState = .offering 15 ∧ s.faults.map FaultRecord.detail = [3]
      ∧ ((s.tun 86).health.outstanding.map Outstanding.number) = some 42 := by decide +kernel

/-- Closing releases it with detail 4 (R124). -/
theorem test_closing_releases : let s := changeShop 86 .closed (with86 silentHeld)
    (s.tun 86).health.state = .seeding ∧ (s.tun 86).health.expiry = some 6500 ∧ s.faults.map FaultRecord.detail = [4] := by
  decide +kernel

theorem test_silent_fault :
    let s := takeMiss 86 45 (withHealth { healthy with miss := 3 })
    (s.tun 86).health.state = .faultedSilent ∧ (s.tun 86).health.miss = 4 ∧ s.faults.map FaultRecord.detail = [45] := by
  decide +kernel

/-! ### Keying (chapter 4) -/

theorem test_generation_after_255 : nextGeneration 255 = 1 ∧ nextGeneration 13 = 14 := by decide

theorem test_response_retries : let s := after (.responseExpiry 86) (with86 offering)
    (s.tun 86).attempts = 2 ∧ (s.tun 86).keyState = .offering 1 ∧ (s.tun 86).egress.length = 1 := by decide +kernel

theorem test_exchange_fails : let s := after (.responseExpiry 86) (with86 { offering with attempts := 3 })
    (s.tun 86).keyState = .unkeyed ∧ (s.tun 86).holdoff = some 8000 ∧ s.faults.map FaultRecord.kind = [.renewFail] := by
  decide +kernel

theorem test_install_secret :
    let s := after (.installSecret hdr 86 (some ⟨5, 86, (7 : BitVec 256) ++ (3 : BitVec 16) ++ (0 : BitVec 48)⟩))
      { with86 keyed with transportKey := some 5 }
    (s.tun 86).keyState = .bootstrap ∧ (s.tun 86).cur = none ∧ (s.tun 86).secret = some { secret := 7, epoch := 3 }
      ∧ s.kduQueue = [{ tunnel := 86, kind := .bootstrap }] := by decide +kernel

theorem test_install_other_tunnel :
    (after (.installSecret hdr 87 (some ⟨5, 86, 0⟩)) { with86 keyed with transportKey := some 5 }).kduQueue = [] := by
  decide +kernel

theorem test_switch : let s := switchKeys 86 15 ⟨0, 0, 86, 15, 0, 0⟩ (with86 keyed)
    (s.tun 86).prev.map PrevGen.number = some 14 ∧ (s.tun 86).cur.map CurGen.number = some 15
      ∧ (s.tun 86).grace = some 5500 := by decide +kernel

/-- The switch probe of a live group is the new generation's first frame, padded with zero bytes to 60 (R39, R76, R114). -/
theorem test_switch_probe : let s := switchGeneration 86 15 ⟨0, 0, 86, 15, 0, 0⟩ ((waitingState []).setTun 86 keyed)
    (s.tun 86).egress.map CarrierFrame.rest = [List.replicate 14 0] ∧ (s.tun 86).cur.map CurGen.lastSeq = some 1
      ∧ (s.tun 86).health.outstanding = some { number := 1, departure := 500000 } ∧ (s.tun 86).health.expiry = some 5100 := by
  decide +kernel

/-- RENEW_NOW of a dormant UNKEYED tunnel wakes it, and one initial keying starts (R72, R144, R145). -/
theorem test_renew_dormant : let s := after (.renewNow hdr 86) (with86 dormantUnkeyed)
    (s.tun 86).keyState = .offering 1 ∧ (s.tun 86).attempts = 1 ∧ (s.tun 86).dormancyExpiry = some 185000 := by decide +kernel

/-- A tunnel that is dormant at the completion of a level 2 starts its initial keying with the others (R20, R170). -/
theorem test_level_two_dormant :
    let s := startInitialKeying 86 (clearRest 86 (with86 dormantUnkeyed))
    (s.tun 86).keyState = .offering 1 ∧ (s.tun 86).dormant = false := by decide +kernel

/-! ### Egress (chapter 6) -/

theorem test_grant : let s := after (.grant 0) (waitingState [queued])
    (s.uplink 0).tx = some queued ∧ s.list 0 = [] ∧ (s.tun 86).egress = [] ∧ s.pointers[(0 : UplinkId)] = some 0 := by
  decide +kernel

theorem test_groups : let fl : GroupFlags := { u1 := false, u2 := true, u3 := true }
    groupStart fl 0 = 0 ∧ groupStart fl 1 = 1 ∧ groupStart fl 2 = 1 ∧ groupStart fl 3 = 1 := by decide

theorem test_carrier_loss : let s := after (.carrierLoss 0) ((waitingState []).setUplink 0
      { Uplink.reset with link := .up, carrier := true, tx := some queued })
    (s.uplink 0).link = .errored ∧ (s.uplink 0).txLost = 1 ∧ s.faults.map FaultRecord.detail = [1] := by decide +kernel

/-! ### The Fault Reporter (chapter 10) -/

theorem test_coalesce : let s := post .tailDrop (some 400) 38 { post .tailDrop (some 400) 40 base with tick := 5002 }
    s.faults = [{ kind := .tailDrop, subject := some 400, detail := 38, count := 2, first := 5000, last := 5002 }]
      ∧ s.flags = 512 ∧ s.holdoffExpiry = some 5050 ∧ s.reportExpiry = some 5100 := by decide +kernel

theorem test_ack_reset : let s := after (.ackReset hdr) { State.afterReset 0 with tick := 340 }
    s.flags = 0 ∧ s.reportExpiry = none ∧ s.faultInd = true ∧ s.station = some 0x020000000A01 := by decide +kernel

theorem test_read_faults_nine : (after (.readFaults hdr 9) base).officeQueue.map (fun f => byteAt f.frame.bytes 17) = [3] := by
  decide +kernel

/-! ### Commands -/

theorem test_identify : (after (.identify { hdr with prov := true }) base).officeQueue.map (fun f => f.frame.bytes)
    = [[0x02, 0, 0, 0, 0x0A, 0x01, 0x02, 0x4C, 0x58, 0, 0, 0, 0x88, 0xB5, 0, 0, 0x81, 0, 0, 7, 0, 8,
        0x0B, 0x30, 1, 0, 0, 0, 1, 0]] := by decide +kernel

theorem test_management_frame :
    (after (.officeFrameArrival { frame := mgmtFrame 0 0x08 [9], fcsOk := true, prov := false }) base).officeQueue
      = (after (.readFaults hdr 9) base).officeQueue := by decide +kernel

theorem test_counters_reply : (State.counterBytes base).length = 128 := by decide +kernel

theorem test_read_tunnel_reply : Tunnel.reset.bytes.length = 86 := by decide

theorem test_profile_clamped :
    let p := Profile.clamped { Profile.default with frameLimit := 0, retryLimit := 9, seedMin := 300, seedMax := 20 }
    p.frameLimit = 1048576 ∧ p.retryLimit = 7 ∧ p.seedMin = 20 ∧ p.seedMax = 300 := by decide

theorem test_profile_payload : Profile.ofPayload ([0] ++ Profile.default.bytes) = Profile.default := by decide +kernel

theorem test_label_broadcast : (after (.setLabel hdr 0xFFFF) base).label = 0 ∧ (after (.setLabel hdr 9) base).label = 9 := by
  decide +kernel

theorem test_pin_reset : (after (.pinResetRelease 5) low).label = 5 ∧ (after (.pinResetRelease 5) low).flags = 1
    ∧ (after (.pinResetRelease 5) low).rstLow = false := by decide +kernel

/-! ### Witnesses: states that meet the hypotheses of the statements -/

/-! #### The step and the promises about every state -/

/-- A bridge in service: a KEYED tunnel with a frame waiting, a fault record, and a tick to take. -/
def inService : State :=
  { waitingState [queued] with
    uplinks := vecConst 4 Uplink.reset
    faults := [{ kind := .tailDrop, subject := some 400, detail := 40, count := 65535, first := 1, last := 2 }]
    pending := [.tick] }

/-- What holds of tunnel 86 and of a tunnel after reset holds of every tunnel in service. -/
theorem inService_all {P : Tunnel → Prop} (h : P { keyed with egress := [queued] }) (hr : P Tunnel.reset) (t : TunnelId) :
    P (inService.tun t) := by
  have e : inService.tun t = if t = 86 then { keyed with egress := [queued] } else base.tun t := State.tun_setTun base 86 t _
  have b : base.tun t = Tunnel.reset := vecConst_getElem Tunnel.reset t.val t.isLt
  rw [e, b]
  split
  · exact h
  · exact hr

/-- Every profile in service is the default one. -/
theorem inService_profile (p : ProfileId) : inService.profiles[p] = Profile.default :=
  vecConst_getElem Profile.default p.val p.isLt

theorem inService_profiles : inService.ProfilesOk := by
  intro p
  rw [inService_profile p]
  decide

theorem witness_StepRunsTheFrontCommand : inService.pending = .tick :: [] ∧ State.reset.pending = [] := ⟨rfl, rfl⟩

theorem witness_NothingIsTakenInReset :
    low.rstLow = true ∧ Instr.tick ≠ .pinResetAssert ∧ ∀ straps, Instr.tick ≠ .pinResetRelease straps :=
  ⟨rfl, by decide, fun _ h => by cases h⟩

theorem witness_Steps : ∃ s', step inService = .next s' := ⟨_, rfl⟩

theorem witness_StepsKeepTheFaultReporter : inService.FaultQueueOk ∧ inService.IndicatorOk := by decide +kernel

theorem witness_StepsKeepTheBuffers : inService.QueuesOk ∧ inService.SlotsOk := by decide +kernel

theorem witness_StepsKeepTheWaitingLists : inService.WaitingOk := by
  have e : ∀ t, inService.tun t = if t = 86 then { keyed with egress := [queued] } else base.tun t :=
    fun t => State.tun_setTun base 86 t _
  have b : ∀ t, base.tun t = Tunnel.reset := fun t => vecConst_getElem Tunnel.reset t.val t.isLt
  have l : ∀ g, inService.list g = if g = 0 then [86] else [] := by decide +kernel
  intro g
  rw [l g]
  refine ⟨by split <;> decide, fun t => ?_⟩
  rw [e t, b t]
  by_cases ht : t = 86 <;> by_cases hg : g = 0 <;>
    simp_all [keyed, Tunnel.reset, TunnelConfig.reset, eq_comm]

theorem witness_StepsKeepTheSettings : inService.SettingsOk := ⟨inService_profiles, by decide +kernel⟩

theorem witness_StepsKeepTheKeying : inService.KeyingOk :=
  ⟨inService_profiles, inService_all (P := fun x => x.ContextsOk ∧ x.NumbersOk ∧ x.RestOk) (by decide) (by decide)⟩

theorem witness_StepsKeepTheDerivations : inService.DerivationsOk := by decide +kernel

theorem witness_StepsKeepTheWindows : inService.WindowsOk :=
  inService_all (P := fun x => (∀ g ∈ x.gen0, g.ctx.window.Ok) ∧ (∀ c ∈ x.cur, c.ctx.window.Ok) ∧ ∀ p ∈ x.prev, p.ctx.window.Ok)
    (by decide) (by decide)

theorem witness_StepsKeepTheHealth : inService.HealthOk := inService_all (P := Tunnel.HealthOk) (by decide) (by decide)

theorem witness_StepsKeepTheArithmetic : inService.ArithmeticOk :=
  ⟨inService_profiles, inService_all (P := fun x => x.health.InBounds ∧ x.rate ≤ 1048560 ∧ x.sample ≤ 65535) (by decide)
    (by decide)⟩

theorem witness_StepsKeepTheLimits : inService.LimitsOk := by
  intro t
  have e : inService.prof t = Profile.default := inService_profile _
  rw [e]
  exact inService_all (P := Tunnel.WithinLimits Profile.default) (by decide) (by decide) t

/-! #### Arithmetic and wire formats -/

theorem witness_StoreKeyBits : (0 ≤ 16 ∧ 16 ≤ 16 ∧ 15 < 16)
    ∧ plain 10 37 214 9 ≠ statusFrame 10 37 214 9 1
    ∧ be32At (plain 10 37 214 9).bytes 30 = be32At (statusFrame 10 37 214 9 1).bytes 30 := by decide +kernel

theorem witness_EveryKeyIsCovered : 65535 < 65536 ∧ separatorsRise regional = true
    ∧ separatorsRise (regional.set 4 { separator := 10623, action := .drop, base := 0 }) = false
    ∧ Covers regional 3 10623 ∧ Covers regional 47 65535 ∧ (47 : EntryId).val = (46 : EntryId).val + 1 := by decide +kernel

theorem witness_WindowAcceptsOnce : let w := (ctx 14).window
    w.Ok ∧ 1 ≤ 2 ∧ w.judge 2 = .accept ∧ w.judge 4 = .accept ∧ w.judge 1 = .replay
      ∧ Window.Ok { high := 70, seen := [70] } ∧ Window.judge { high := 70, seen := [70] } 6 = .tooOld := by decide

theorem witness_RateAndDueTests : (1 ≤ 1 ∧ 1 ≤ 255 ∧ 255 ≤ 255) ∧ 0 + 256 ≤ 16 * 16 ∧ 16 * 0 + 256 ≤ 256
    ∧ 1 ≤ base.jitterRange ∧ 4294967295 ≤ 4294967295 ∧ 16 ≤ Profile.default.frameLimit := by decide +kernel

theorem witness_GeneratorHasFullPeriod : (1 : BitVec 16) ≠ 0 ∧ (0xFFFF : BitVec 16) ≠ 0 ∧ 0 < 1 ∧ 65534 < 65535 := by decide

theorem witness_CompensationTerm : let c := (followed.tun 86).cfg
    (c.role = .follower ∧ (followed.tun c.reference).cfg.role = .reference
        ∧ (followed.tun c.reference).health.state = .normal)
      ∧ (followed.tun c.reference).health.dev ≤ 1048560 ∧ -1048560 ≤ (followed.tun c.reference).health.dev
      ∧ (followed.tun 1000).cfg.role ≠ .follower := by decide +kernel

theorem witness_TunnelFrameLayout :
    TunnelHeader.ofBytes [0x11, 14, 0, 86, 0, 0, 0, 1, 0, 14, 0, 0] = some ⟨0x11, 14, 86, 1, 14, 0⟩ := by decide

theorem witness_CommandFrameRoundTrip : let c := Instr.readFaults hdr 8
    c.wellFormed = true ∧ c.wire = some (hdr, 0x08, [8]) ∧ hdr.broadcast = none ∧ (0 : BitVec 16) ≠ broadcastLabel
      ∧ (frameOfCommand 0x024C58000000 0 c).isSome := by decide

theorem witness_ManagementFrameRunsItsCommand :
    let f := mgmtFrame 0 0x08 [8]
    let b := mgmtFrame 0xFFFF 0x01 []
    f.good true = true ∧ f.etherType = typeManagement ∧ commandOfFrame f false = some (.readFaults hdr 8)
      ∧ base.label ≠ broadcastLabel ∧ be16At f.bytes 14 = base.label
      ∧ b.good true = true ∧ b.etherType = typeManagement ∧ be16At b.bytes 14 = broadcastLabel
      ∧ commandOfFrame b false = some (.identify { hdr with broadcast := some b }) := by decide +kernel

theorem witness_FramesOpenUnderTheirContextAlone :
    let h : TunnelHeader := ⟨0x13, 14, 86, 4, 4, 0⟩
    ([1, 0, 0, 0] : List Byte).length = h.length.toNat
      ∧ (shopFrame (ctx 14) kindEcho 14 4 0 [1, 0, 0, 0]).cipher = some {
          key := (ctx 14).key, nonce := frameNonce (inboundSalt (ctx 14).salt) h.tunnel h.generation h.sequence
          aad := h.bytes, body := [1, 0, 0, 0] }
      ∧ (ctx 15).key ≠ (ctx 14).key ∧ (⟨0x13, 14, 86, 5, 4, 0⟩ : TunnelHeader) ≠ h := by decide +kernel

/-! #### The Fault Reporter and the office transmit queue -/

/-- A fault record of a kind for each number below `n`. -/
def records (n : Nat) : List FaultRecord :=
  (List.range n).map fun i => { kind := .tagFail, subject := some i, detail := 0, count := 1, first := 0, last := 0 }

theorem witness_PostAtTheFaultReporter :
    let s := { base with faults := records 63 }
    let full := { base with faults := records 64 }
    (∃ r ∈ s.faults, r.kind = .tagFail ∧ r.subject = some 62) ∧ s.faults.length < 64
      ∧ (∀ r ∈ s.faults, ¬ (r.kind = .tailDrop ∧ r.subject = some 1)) ∧ 64 ≤ full.faults.length
      ∧ (∀ r ∈ full.faults, ¬ (r.kind = .tailDrop ∧ r.subject = some 1)) := by decide +kernel

theorem witness_PostSendsItsNotice :
    let r := recordPost .tailDrop (some 1) 0 base
    base.resetFlag = false ∧ base.noticeMode = .event
      ∧ (9 < 11 ∧ base.eventMask.getLsbD 9 = true ∧ base.flags.getLsbD 9 = false ∧ r.flags.getLsbD 9 = true)
      ∧ ({ base with holdoffExpiry := some 1 } : State).holdoffExpiry.isSome ∧ base.holdoffExpiry = none
      ∧ base.station = none ∧ ({ base with station := some 1 } : State).station = some 1
      ∧ base.officeQueue.length < 512 ∧ 0 < base.freeSlots
      ∧ ({ base with noticeMode := .streaming } : State).noticeMode ≠ .event := by decide +kernel

/-- A clear frame of the office transmit queue. -/
def clearFrame : OfficeFrame := { kind := .clear, frame := plain 1 2 3 4 }

/-- A notice that meets a full office transmit queue: its OFFICE_OVERRUN record sets a flag of the event mask, or finds it set. -/
theorem witness_PostDropsItsNotice :
    let s := { base with station := some 1, officeQueue := List.replicate 512 clearFrame }
    let r := recordPost .renewFail (some 86) 15 s
    let q := recordPost .tailDrop (some 86) 15 s
    s.station = some 1 ∧ s.holdoffExpiry = none ∧ 512 ≤ s.officeQueue.length
      ∧ (4 < 11 ∧ s.eventMask.getLsbD 4 = true ∧ s.flags.getLsbD 4 = false ∧ r.flags.getLsbD 4 = true)
      ∧ (r.flags.getLsbD 9 = false ∧ (recordPost .officeOverrun none 0 r).flags.getLsbD 9 = true)
      ∧ (s.flags.getLsbD 9 = false ∧ q.flags.getLsbD 9 = true
        ∧ ∀ n, n < 11 → q.flags.getLsbD n = false → (recordPost .officeOverrun none 0 q).flags.getLsbD n = false) := by
  decide +kernel

/-- The drop of such a notice: its expiries are armed, it is counted and recorded, and another notice is left pending (log entry 12). -/
theorem test_notice_dropped :
    let s := post .renewFail (some 86) 15 { base with station := some 1, officeQueue := List.replicate 512 clearFrame }
    s.holdoffExpiry = some 5050 ∧ s.reportExpiry = some 5100 ∧ s.noticePending = true ∧ s.counters.officeOverrun = 1
      ∧ s.faults.map FaultRecord.detail = [15, 3584] := by decide +kernel

theorem witness_OfficeQueueAdmits :
    let s := { base with officeQueue := List.replicate 511 clearFrame }
    let full := { base with officeQueue := List.replicate 512 clearFrame }
    s.officeQueue.length < 512 ∧ 0 < s.freeSlots ∧ 64 < s.freeSlots ∧ 512 ≤ full.officeQueue.length
      ∧ (with86 { keyed with egress := List.replicate 4096 queued }).freeSlots = 0
      ∧ (with86 { keyed with egress := List.replicate 4032 queued }).freeSlots = 64 := by decide +kernel

/-! #### The office side -/

theorem witness_OfficeFrameArrives : let f := plain 10 37 214 9
    let m := mgmtFrame 1 0x08 [8]
    base.rstLow = false ∧ f.good false = false ∧ f.good true = true ∧ f.etherType ≠ 0x88B5 ∧ f.etherType ≠ 0x88B6
      ∧ ({ bytes := List.replicate 12 0 ++ [0x88, 0xB6] ++ List.replicate 46 0 } : EthFrame).etherType = 0x88B6
      ∧ ({ bytes := List.replicate 12 0 ++ [0x88, 0xB6] ++ List.replicate 46 0 } : EthFrame).good true = true
      ∧ ({ base with holding := List.replicate 255 f } : State).holding.length < 256
      ∧ 256 ≤ ({ base with holding := List.replicate 256 f } : State).holding.length
      ∧ m.good true = true ∧ m.etherType = 0x88B5 ∧ be16At m.bytes 14 ≠ base.label ∧ be16At m.bytes 14 ≠ 0xFFFF
      ∧ base.cascadeUp = false ∧ ({ base with cascadeUp := true } : State).cascadeUp = true
      ∧ ({ base with cascadeList := List.replicate 15 ⟨m, false⟩ } : State).cascadeList.length < 16
      ∧ 16 ≤ ({ base with cascadeList := List.replicate 16 ⟨m, false⟩ } : State).cascadeList.length := by decide +kernel

/-- A management frame under `a b` whose length field claims 39 payload bytes and which holds 38. -/
def overlong (a b : Byte) : EthFrame where
  bytes := List.replicate 12 0 ++ [0x88, 0xB5, a, b, 8, 0, 0, 7, 0, 39] ++ List.replicate 38 0

theorem witness_MalformedManagement : let f := overlong 0 0
    let b := overlong 0xFF 0xFF
    f.good true = true ∧ f.etherType = 0x88B5 ∧ be16At f.bytes 14 = base.label
      ∧ f.bytes.length < 22 + (be16At f.bytes 20).toNat
      ∧ b.good true = true ∧ b.etherType = 0x88B5 ∧ be16At b.bytes 14 ≠ base.label ∧ be16At b.bytes 14 = 0xFFFF
      ∧ b.bytes.length < 22 + (be16At b.bytes 20).toNat := by decide +kernel

/-- What a command code requires of its payload: a code of the table with its least length, and none below it or past the table. -/
theorem witness_ManagementCommand :
    let ok := fun f : EthFrame => f.good true = true ∧ f.etherType = 0x88B5 ∧ 22 + (be16At f.bytes 20).toNat ≤ f.bytes.length
    let own := mgmtFrame 0 0x08 [8]
    let wide := mgmtFrame 0xFFFF 0x1B [4]
    (ok own ∧ be16At own.bytes 14 = base.label ∧ byteAt own.bytes 16 = 8 ∧ (be16At own.bytes 20).toNat = 1)
      ∧ (ok (mgmtFrame 0 0x08 []) ∧ (be16At (mgmtFrame 0 0x08 []).bytes 20).toNat = 0)
      ∧ (ok (mgmtFrame 0 0x1C []) ∧ 0x1B < (byteAt (mgmtFrame 0 0x1C []).bytes 16).toNat)
      ∧ (ok (mgmtFrame 0 0x12 [0, 86, 2]) ∧ 1 < (byteAt (mgmtFrame 0 0x12 [0, 86, 2]).bytes 24).toNat)
      ∧ (ok (mgmtFrame 0 0x19 [0, 2, 0]) ∧ 1 < (byteAt (mgmtFrame 0 0x19 [0, 2, 0]).bytes 23).toNat)
      ∧ (ok wide ∧ be16At wide.bytes 14 ≠ base.label ∧ be16At wide.bytes 14 = 0xFFFF ∧ byteAt wide.bytes 16 = 0x1B
        ∧ byteAt wide.bytes 22 = 4)
      ∧ (ok (mgmtFrame 0xFFFF 0x08 [8]) ∧ (0x08 : Byte) ≠ 0x01 ∧ (0x08 : Byte) ≠ 0x1B)
      ∧ (commandOfFrame own false = some (.readFaults hdr 8) ∧ base.label ≠ 0xFFFF)
      ∧ base.progress = none ∧ ({ base with progress := some (.level2 0 0) } : State).progress ≠ none := by decide +kernel

theorem witness_LookupDrops :
    let at4 := holdingState (plain 10 78 32 2) keyed
    let at3 := holdingState (plain 10 41 4 1) keyed
    let odd : EthFrame := { bytes := List.replicate 60 0 }
    at4.Holds (plain 10 78 32 2) [] ∧ odd.isIPv4 = false ∧ (holdingState odd keyed).Holds odd []
      ∧ (plain 10 78 32 2).isIPv4 = true ∧ coveringEntry at4.intervals (storeKey at4.keyOffset (plain 10 78 32 2)) = some 4
      ∧ at4.intervals[(4 : EntryId)].action = .drop
      ∧ at3.Holds (plain 10 41 4 1) [] ∧ coveringEntry at3.intervals (storeKey at3.keyOffset (plain 10 41 4 1)) = some 3
      ∧ at3.intervals[(3 : EntryId)].action = .tunnel
      ∧ 1023 < at3.intervals[(3 : EntryId)].base.val + storeKey 8 (plain 10 41 4 1) - lowerBound at3.intervals 3
      ∧ ({ at3 with paused := true } : State).paused = true ∧ base.holding = [] := by decide +kernel

theorem mapsTo_86 (x : Tunnel) : (holdingState (plain 10 37 214 9) x).MapsTo (plain 10 37 214 9) 86 := by
  refine ⟨by decide +kernel, 1, ?_, ?_, ?_⟩
  · show coveringEntry regional (storeKey 8 (plain 10 37 214 9)) = some 1
    decide +kernel
  · show regional[(1 : EntryId)].action = .tunnel
    decide +kernel
  · show regional[(1 : EntryId)].base.val + storeKey 8 (plain 10 37 214 9) - lowerBound regional 1 = 86
    decide +kernel

theorem witness_TunnelChecksDrop : let f := plain 10 37 214 9
    let at86 := fun x => (holdingState f x).tun 86
    let opened := statusFrame 10 37 214 9 1
    (holdingState f keyed).Holds f [] ∧ (holdingState f keyed).Unsnooped f 86 ∧ (at86 keyed).dormant = false
      ∧ (statusMessage 4450 0x5354 opened = some .opened ∧ (holdingState opened keyed).Unsnooped opened 86)
      ∧ ((at86 dormantKeyed).dormant = true ∧ (at86 dormantKeyed).cfg.enabled = true ∧ (at86 dormantKeyed).cur = some gen14)
      ∧ ((at86 dormantUnkeyed).dormant = true ∧ (at86 dormantUnkeyed).cfg.enabled = true ∧ (at86 dormantUnkeyed).cur = none)
      ∧ (at86 Tunnel.reset).cfg.enabled = false
      ∧ ((at86 offering).cfg.enabled = true ∧ (at86 offering).cur = none ∧ (at86 offering).keyState ≠ .unkeyed)
      ∧ ((at86 unkeyed).cfg.enabled = true ∧ (at86 unkeyed).keyState = .unkeyed ∧ (at86 unkeyed).holdoff = none)
      ∧ (at86 keyed).cur = some gen14 ∧ Profile.default.ageLimit ≤ { gen14 with age := 28800 }.age
      ∧ Profile.default.frameLimit - 16 < { gen14 with lastSeq := 2147483632 }.lastSeq + 1
      ∧ ¬ (Profile.default.frameLimit - 16 < gen14.lastSeq + 1 ∨ Profile.default.ageLimit ≤ gen14.age)
      ∧ Profile.default.dataLimit ≤ { keyed with egress := List.replicate 32 queued }.dataFrames := by decide +kernel

theorem witness_OfficeFrameIsEnciphered : let f := plain 10 37 214 9
    let s := holdingState f { keyed with egress := List.replicate 31 queued }
    s.Holds f [] ∧ s.Unsnooped f 86 ∧ (s.tun 86).dormant = false
      ∧ (s.tun 86).cfg.enabled = true ∧ (s.tun 86).cur = some gen14
      ∧ gen14.lastSeq + 1 ≤ (s.prof 86).frameLimit - 16 ∧ gen14.age < (s.prof 86).ageLimit
      ∧ (s.tun 86).dataFrames < (s.prof 86).dataLimit ∧ 64 < s.freeSlots
      ∧ { gen14 with lastSeq := 2147483631 }.lastSeq + 1 ≤ Profile.default.frameLimit - 16 := by decide +kernel

theorem witness_StatusMessage : let f := statusFrame 10 37 214 9 3
    statusMessage 4450 0x5354 f = some .closed ∧ keyed.cfg.snoop = true ∧ keyed.shop ≠ .closed ∧ closing.shop = .closed
      ∧ storeKey 8 f = storeKey 8 (plain 10 37 214 9) ∧ f.isIPv4 = true
      ∧ ({ keyed with cfg := { keyed.cfg with snoop := false } } : Tunnel).cfg.snoop = false := by decide +kernel

/-! #### The carrier side -/

/-- An uplink that is Up, with a frame in transmission. -/
def up : Uplink := { Uplink.reset with link := .up, carrier := true, tx := some queued }

/-- An uplink that erred, to come back by itself. -/
def erred (c : ErrorCause) : Uplink :=
  { Uplink.reset with link := .errored, autoRestart := true, cause := c, erroredSince := some 1 }

theorem witness_UplinkPortEvents : up.link = .up ∧ queued.good true = true ∧ queued.good false = false
    ∧ up.rxErrors + 1 < 16 ∧ { up with rxErrors := 15 }.rxErrors = 15 ∧ { up with rxErrors := 14 }.rxErrors + 1 < 16
    ∧ ((erred .receiveErrors).link = .errored ∧ (erred .receiveErrors).autoRestart = true
        ∧ (erred .receiveErrors).cause = .receiveErrors ∧ (erred .receiveErrors).erroredSince = some 1)
    ∧ Uplink.reset.link = .stopped ∧ (erred .carrierLoss).cause ≠ .receiveErrors
    ∧ up.carrier = true ∧ (erred .carrierLoss).carrier = false ∧ (erred .carrierLoss).cause = .carrierLoss
    ∧ (base.setUplink 3 up).uplink 3 = up := by decide +kernel

theorem witness_GroupsAndGrants : let s := waitingState [queued]
    s.rstLow = false ∧ s.list 0 = 86 :: [] ∧ (s.roundRobin 0).find? s.isFree = some 0 ∧ (s.tun 86).egress = queued :: []
      ∧ (s.tun 86).dormancyDue = false ∧ s.list 1 = [] ∧ (∀ v ∈ s.members 1, s.isFree v = false)
      ∧ ((waitingState [queued, queued]).tun 86).egress = queued :: [queued]
      ∧ (s.point 0 0).pointers[(0 : UplinkId)] = some 0 := by decide +kernel

/-- A tunnel waits with dormancy due, and its last frame leaves by a grant, or by a discard where its uplink discards (R141). -/
theorem witness_LastFrameLeaves :
    let x := { keyed with shop := .closed, dormancyDue := true, egress := [queued] }
    let s := (waitingState [queued]).setTun 86 x
    let r := s.setUplink 0 { Uplink.reset with link := .errored, discardOnError := true }
    (s.list 0 = 86 :: [] ∧ (s.roundRobin 0).find? s.isFree = some 0 ∧ (s.tun 86).egress = queued :: []
        ∧ (s.tun 86).dormancyDue = true ∧ (s.tun 86).keyState = .keyed)
      ∧ ((∀ v ∈ r.members 0, (r.uplink v).link ≠ .up) ∧ (r.roundRobin 0).find? r.isDiscarding = some 0)
      ∧ { x with egress := [], keyState := .unkeyed }.keyState = .unkeyed := by decide +kernel

theorem test_last_frame_rests :
    let s := (waitingState [queued]).setTun 86 { keyed with shop := .closed, dormancyDue := true, egress := [queued] }
    let r := s.setUplink 0 { Uplink.reset with link := .errored, discardOnError := true }
    ((after (.grant 0) s).tun 86).dormant = true ∧ ((after (.grant 0) s).uplink 0).tx = some queued
      ∧ ((after (.groupDiscard 0) r).tun 86).dormant = true ∧ ((after (.groupDiscard 0) r).uplink 0).discards = 1 := by
  decide +kernel

theorem witness_AfterTheGrants : (waitingState [queued]).WaitingOk := by
  have e : ∀ t, (waitingState [queued]).tun t = if t = 86 then { keyed with egress := [queued] } else base.tun t :=
    fun t => State.tun_setTun base 86 t _
  have b : ∀ t, base.tun t = Tunnel.reset := fun t => vecConst_getElem Tunnel.reset t.val t.isLt
  have l : ∀ g, (waitingState [queued]).list g = if g = 0 then [86] else [] := by decide +kernel
  intro g
  rw [l g]
  refine ⟨by split <;> decide, fun t => ?_⟩
  rw [e t, b t]
  by_cases ht : t = 86 <;> by_cases hg : g = 0 <;>
    simp_all [keyed, Tunnel.reset, TunnelConfig.reset, eq_comm]

theorem witness_GrantAfterThePointer :
    let s := (({ waitingState [queued] with groupFlags := { u1 := true, u2 := true, u3 := true } } : State).point 0 1).setUplink 3
      { Uplink.reset with link := .up }
    (3 : UplinkId) ∈ s.members 0 ∧ s.isFree 3 = true ∧ s.pointers[(0 : UplinkId)] = some 1 ∧ (1 : UplinkId) < 3
      ∧ (s.roundRobin 0).find? s.isFree = some 3 := by decide +kernel

/-- Past the last member the order begins again at the start uplink, and a pointer that names none begins there (R103). -/
theorem test_round_robin_wraps :
    let s := { waitingState [queued] with groupFlags := { u1 := true, u2 := true, u3 := true } }
    (s.point 0 3).roundRobin 0 = [0, 1, 2, 3] ∧ (s.point 0 1).roundRobin 0 = [2, 3, 0, 1] ∧ s.roundRobin 0 = [0, 1, 2, 3]
      ∧ ((s.point 0 2).roundRobin 0).find? s.isFree = some 0 := by decide +kernel

theorem witness_TransmissionEndsAndGroupDiscards :
    let s := (waitingState [queued]).setUplink 0 { Uplink.reset with link := .errored, discardOnError := true }
    (base.setUplink 0 up).rstLow = false ∧ ((base.setUplink 0 up).uplink 0).tx = some queued
      ∧ (∀ v ∈ s.members 0, (s.uplink v).link ≠ .up) ∧ s.list 0 = 86 :: [] ∧ (s.roundRobin 0).find? s.isDiscarding = some 0
      ∧ (s.tun 86).egress = queued :: [] ∧ (s.tun 86).dormancyDue = false
      ∧ (∃ v ∈ (waitingState []).members 0, ((waitingState []).uplink v).link = .up) ∧ s.list 2 = []
      ∧ s.isDiscarding 0 = true ∧ (base.uplink 0).tx = none
      ∧ (let r := s.setUplink 0 { Uplink.reset with link := .errored }
        ∀ v ∈ r.members 0, (r.uplink v).link ≠ .errored ∨ (r.uplink v).discardOnError = false) := by decide +kernel

theorem witness_InboundFrameIsDropped :
    let f := shopFrame (ctx 14) kindEcho 14 3 0 [1, 0, 0, 0]
    let h : TunnelHeader := ⟨0x13, 14, 86, 3, 4, 0⟩
    let s := inboundState f keyed
    s.rstLow = false ∧ (s.uplink 0).delivered = { frame := f, arrival := 500000 } :: [] ∧ f.etherType = 0x88B6
      ∧ { f with etherType := 0x0800 }.etherType ≠ 0x88B6 ∧ wellFormedHeader { f with head := [] } = none
      ∧ wellFormedHeader f = some (h, 86) ∧ Tunnel.reset.cfg.enabled = false
      ∧ (s.tun 86).cfg.enabled = true ∧ (s.tun 86).keyState ≠ .noSecret ∧ (s.tun 86).matching { h with generation := 13 } = none
      ∧ (s.tun 86).matching h = some (.current, ctx 14) ∧ (ctx 14).opens h { f with cipher := none } = none
      ∧ (ctx 14).opens h f ≠ none ∧ (ctx 14).window.judge h.sequence.toNat = .replay
      ∧ Window.judge { high := 67, seen := [67] } h.sequence.toNat = .tooOld := by decide +kernel

/-- A frame of tunnel 86's shop that nothing speaks against is valid. -/
theorem valid_at (x : Tunnel) (hx : x.cfg.enabled = true ∧ x.keyState ≠ .noSecret) (m : Match) (k : KeyContext) (kind : BitVec 4)
    (gen : BitVec 8) (epoch : BitVec 16) (body : List Byte) (h : TunnelHeader)
    (hw : wellFormedHeader (shopFrame k kind gen 4 epoch body) = some (h, 86)) (hm : x.matching h = some (m, k))
    (ho : k.opens h (shopFrame k kind gen 4 epoch body) = some body) (hf : k.window.judge h.sequence.toNat = .accept) :
    ValidAt (inboundState (shopFrame k kind gen 4 epoch body) x) { frame := shopFrame k kind gen 4 epoch body, arrival := 500000 }
      86 h m k body := by
  have e : (inboundState (shopFrame k kind gen 4 epoch body) x).tun 86 = x := State.tun_setTun_self base 86 x
  exact ⟨rfl, hw, e ▸ hx, e ▸ hm, ho, hf⟩

theorem witness_ValidFrameIsDispatched_data :
    ValidAt (inboundState (shopFrame (ctx 14) kindData 14 4 0 (List.replicate 14 0)) keyed)
      { frame := shopFrame (ctx 14) kindData 14 4 0 (List.replicate 14 0), arrival := 500000 } 86 ⟨0x11, 14, 86, 4, 14, 0⟩ .current
      (ctx 14) (List.replicate 14 0) :=
  valid_at keyed (by decide) _ _ _ _ _ _ _ (by decide) (by decide) (by decide) (by decide)

theorem witness_ValidFrameIsDispatched_echo :
    ValidAt (inboundState (shopFrame (ctx 14) kindEcho 14 4 0 [1, 0, 0, 0]) dormantKeyed)
      { frame := shopFrame (ctx 14) kindEcho 14 4 0 [1, 0, 0, 0], arrival := 500000 } 86 ⟨0x13, 14, 86, 4, 4, 0⟩ .current
      (ctx 14) [1, 0, 0, 0] ∧ dormantKeyed.dormant = true :=
  ⟨valid_at dormantKeyed (by decide) _ _ _ _ _ _ _ (by decide) (by decide) (by decide) (by decide), by decide⟩

theorem witness_ValidFrameIsDispatched_ask :
    ValidAt (inboundState (shopFrame (ctx 1) kindAsk 0 4 3 [0, 0]) keyed)
      { frame := shopFrame (ctx 1) kindAsk 0 4 3 [0, 0], arrival := 500000 } 86 ⟨0x16, 0, 86, 4, 2, 3⟩ .gen0 (ctx 1) [0, 0] :=
  valid_at keyed (by decide) _ _ _ _ _ _ _ (by decide) (by decide) (by decide) (by decide)

theorem witness_ValidFrameIsDispatched_stale :
    ValidAt (inboundState (shopFrame (ctx 14) kindAccept 14 4 0 (List.replicate 34 0)) keyed)
      { frame := shopFrame (ctx 14) kindAccept 14 4 0 (List.replicate 34 0), arrival := 500000 } 86 ⟨0x15, 14, 86, 4, 34, 0⟩
      .current (ctx 14) (List.replicate 34 0) :=
  valid_at keyed (by decide) _ _ _ _ _ _ _ (by decide) (by decide) (by decide) (by decide)

theorem witness_EchoIsSentOrForgotten : (with86 keyed).tun 86 = keyed ∧ keyed.cur = some gen14
    ∧ gen14.lastSeq + 1 ≤ Profile.default.frameLimit ∧ Profile.default.frameLimit < { gen14 with lastSeq := 2147483648 }.lastSeq + 1
    ∧ { gen14 with lastSeq := 2147483647 }.lastSeq + 1 ≤ Profile.default.frameLimit ∧ 0 < (with86 keyed).freeSlots
    ∧ (with86 { keyed with egress := List.replicate 4096 queued }).freeSlots = 0 ∧ unkeyed.cur = none := by decide +kernel

/-! #### Keying -/

theorem witness_AttemptMakesAnOffer : let last := { unkeyed with gen0 := some { boot with lastSeq := 4294967294 } }
    ((with86 unkeyed).tun 86).gen0 = some boot ∧ boot.lastSeq + 1 < 4294967295 ∧ 0 < (with86 unkeyed).freeSlots
      ∧ { boot with lastSeq := 4294967293 }.lastSeq + 1 < 4294967295
      ∧ (with86 { keyed with egress := List.replicate 4096 queued }).freeSlots = 0
      ∧ ((with86 last).tun 86).gen0 = some { boot with lastSeq := 4294967294 }
      ∧ { boot with lastSeq := 4294967294 }.lastSeq + 1 = 4294967295 := by decide +kernel

theorem witness_RenewalControllerTakesControl :
    offering.keyState = .offering 1 ∧ offering.nonce = some { value := 77, expiry := 5000 } ∧ keyed.keyState = .keyed
      ∧ keyed.cur = some gen14 ∧ ¬ (keyed.keyState = .offering 1) ∧ unkeyed.keyState = .unkeyed ∧ unkeyed.cfg.enabled = true := by
  decide

/-- A tunnel whose derivation of generation 15 is under way. -/
def derivingTunnel : Tunnel := { keyed with keyState := .deriv 15 }

theorem witness_DerivationStartsAndCompletes :
    let e : KduEntry := { tunnel := 86, kind := .bootstrap }
    let s := { with86 { unkeyed with keyState := .bootstrap, gen0 := none } with kduQueue := [e] }
    let d : KduFlight := { owner := some 86, kind := .generation 15 7 8, inputs := ⟨99, 3, 86, 15, 7, 8⟩ }
    s.rstLow = false ∧ s.kduFlight = none ∧ s.kduQueue = e :: [] ∧ (s.tun e.tunnel).secret = some { secret := 99, epoch := 3 }
      ∧ base.kduQueue = [] ∧ ({ s with kduFlight := some d } : State).kduFlight.isSome
      ∧ { d with owner := none }.owner = none ∧ d.owner = some 86 ∧ d.kind = .generation 15 7 8
      ∧ ((with86 derivingTunnel).tun 86).keyState = .deriv 15 ∧ (s.tun 86).keyState = .bootstrap
      ∧ { d with kind := .bootstrap }.kind = .bootstrap := by decide +kernel

theorem witness_SwitchInstallsTheGeneration :
    (∀ v ∈ (with86 derivingTunnel).members ((with86 derivingTunnel).tun 86).cfg.activeGroup,
        ((with86 derivingTunnel).uplink v).link ≠ .up)
      ∧ (with86 { derivingTunnel with egress := List.replicate 4096 queued }).freeSlots = 0
      ∧ (let s := (waitingState []).setTun 86 derivingTunnel
        (0 : UplinkId) ∈ s.members (s.tun 86).cfg.activeGroup ∧ (s.uplink 0).link = .up ∧ 0 < s.freeSlots
          ∧ 1 ≤ (s.prof 86).frameLimit ∧ (s.tun 86).prev = none) := by decide +kernel

theorem witness_ResponseAndHoldoffExpire : let s := with86 offering
    s.rstLow = false ∧ (s.tun 86).keyState = .offering 1 ∧ (s.tun 86).nonce = some { value := 77, expiry := 5000 }
      ∧ s.reached (some 5000) = true ∧ (s.tun 86).attempts < 1 + (s.prof 86).retryLimit
      ∧ { offering with attempts := 2 }.attempts < 1 + Profile.default.retryLimit
      ∧ 1 + Profile.default.retryLimit ≤ { offering with attempts := 3 }.attempts
      ∧ ((with86 { unkeyed with holdoff := some 5000 }).tun 86).holdoff = some 5000
      ∧ ((with86 unkeyed).tun 86).nonce = none ∧ ((with86 unkeyed).tun 86).holdoff = none := by decide +kernel

/-- One tick early no expiry has been reached, across the wrap of the counter too; at its tick and 2^31 - 1 ticks later it has. -/
theorem witness_NotReached : base.reached (some 5001) = false ∧ base.reached (some 5000) = true
    ∧ ({ base with tick := 0xFFFFFFFF } : State).reached (some 0) = false ∧ ({ base with tick := 0 } : State).reached (some 0) = true
    ∧ ({ base with tick := 0x7FFFFFFF } : State).reached (some 0) = true
    ∧ ({ base with tick := 0x80000000 } : State).reached (some 0) = false := by decide +kernel

/-- Every kind of expiry, armed for the tick after the present one. -/
theorem witness_ExpiriesNotReached :
    let s := with86 { keyed with dormancyExpiry := some 5001, health := { healthy with expiry := some 5001 } }
    let n := { base with reportExpiry := some 5001, holdoffExpiry := some 5001 }
    { offering with nonce := some { value := 77, expiry := 5001 } }.nonce = some { value := 77, expiry := 5001 }
      ∧ { unkeyed with holdoff := some 5001 }.holdoff = some 5001
      ∧ { keyed with keyState := .pending, jitter := some 5001 }.jitter = some 5001
      ∧ { keyed with prev := some { number := 13, ctx := ctx 13 }, grace := some 5001 }.grace = some 5001
      ∧ { gen14 with nextAge := 5001 }.nextAge = 5001
      ∧ ((s.tun 86).health.expiry = some 5001 ∧ (s.tun 86).dormancyExpiry = some 5001 ∧ s.reached (some 5001) = false)
      ∧ (n.reportExpiry = some 5001 ∧ n.holdoffExpiry = some 5001 ∧ n.reached (some 5001) = false ∧ n.rstLow = false)
      ∧ ∀ g, unkeyed.keyState ≠ .offering g := by
  refine ⟨rfl, rfl, rfl, rfl, rfl, by decide +kernel, by decide +kernel, nofun⟩

theorem witness_JitterGraceAndAgeExpire :
    let pend := { keyed with keyState := .pending, jitter := some 5000 }
    let old := { keyed with prev := some { number := 13, ctx := ctx 13 }, grace := some 5000, cur := some { gen14 with nextAge := 5000 } }
    (pend.keyState = .pending ∧ pend.jitter = some 5000 ∧ base.reached (some 5000) = true
        ∧ { pend with health := { healthy with state := .faultedSilent } }.health.state = .faultedSilent
        ∧ pend.health.state ≠ .faultedSilent ∧ pend.cur = some gen14)
      ∧ (old.prev = some { number := 13, ctx := ctx 13 } ∧ old.grace = some 5000)
      ∧ (old.cur = some { gen14 with nextAge := 5000 } ∧ base.reached (some { gen14 with nextAge := 5000 }.nextAge) = true)
      ∧ keyed.keyState ≠ .pending ∧ keyed.prev = none ∧ unkeyed.cur = none := by decide +kernel

/-! #### Time, health and trading state -/

theorem witness_TicksAndRateIntervals :
    let x := { keyed with cur := some { gen14 with lastSeq := 2147483631 } }
    let s := { with86 x with intervalEnd := true }
    s.rstLow = false ∧ s.intervalEnd = true ∧ base.intervalEnd = false
      ∧ (base.clock = base.tick * 100 + BitVec.ofNat 32 (0 : Fin 100).val ∧ x.dueTestable = true)
      ∧ ((s.tun 86).endInterval s.profiles).dueTestable = true
      ∧ (s.tun 86).cur = some { gen14 with lastSeq := 2147483631 }
      ∧ renewalDue { gen14 with lastSeq := 2147483632 } (s.prof 86) 0 (leadTime s (s.prof 86)) = true
      ∧ renewalDue { gen14 with lastSeq := 2147483631 } (s.prof 86) 0 (leadTime s (s.prof 86)) = false
      ∧ (s.tun 86).health.state ≠ .faultedSilent
      ∧ { x with health := { healthy with state := .faultedSilent } }.health.state = .faultedSilent := by decide +kernel

theorem witness_ProbeExpiresAndIsSent : let s := waitingState []
    s.rstLow = false ∧ (s.tun 86).health.state ≠ .off ∧ (s.tun 86).health.expiry = some 5000 ∧ s.reached (some 5000) = true
      ∧ (∀ v ∈ (with86 keyed).members 0, ((with86 keyed).uplink v).link ≠ .up)
      ∧ (0 : UplinkId) ∈ s.members (s.tun 86).cfg.activeGroup ∧ (s.uplink 0).link = .up ∧ (s.tun 86).cur = some gen14
      ∧ gen14.lastSeq + 1 ≤ (s.prof 86).frameLimit ∧ 0 < s.freeSlots
      ∧ { gen14 with lastSeq := 2147483647 }.lastSeq + 1 ≤ Profile.default.frameLimit
      ∧ Profile.default.frameLimit < { gen14 with lastSeq := 2147483648 }.lastSeq + 1 ∧ unkeyed.health.state = .off
      ∧ closing.shop = .closed ∧ keyed.shop ≠ .closed ∧ { healthy with miss := 2 }.miss + 1 < Profile.default.missLimit
      ∧ Profile.default.missLimit ≤ { healthy with miss := 3 }.miss + 1 := by decide +kernel

theorem witness_DormancyEntersTheTunnel : let s := with86 closing
    s.rstLow = false ∧ (s.tun 86).dormancyExpiry = some 5000 ∧ s.reached (some 5000) = true
      ∧ (closing.keyState = .keyed ∧ closing.egress = []) ∧ { closing with egress := [queued] }.egress ≠ []
      ∧ { closing with keyState := .offering 15 }.keyState ≠ .keyed ∧ keyed.dormancyExpiry = none
      ∧ { closing with dormancyExpiry := none, dormancyDue := true }.dormancyDue = true ∧ keyed.dormancyDue = false := by
  decide +kernel

/-- A KEYED tunnel that the closing renewal test finds worn, by one frame and by one second. -/
theorem witness_ShopStateChanges_worn : let worn := { keyed with cur := some { gen14 with lastSeq := 1073741825 } }
    (worn.cfg.enabled = true ∧ worn.dormant = false ∧ worn.keyState = .keyed ∧ worn.holdoff = none
        ∧ worn.cur = some { gen14 with lastSeq := 1073741825 }
        ∧ Profile.default.frameLimit < 2 * { gen14 with lastSeq := 1073741825 }.lastSeq)
      ∧ ¬ (Profile.default.frameLimit < 2 * { gen14 with lastSeq := 1073741824 }.lastSeq)
      ∧ (Profile.default.ageLimit < 2 * { gen14 with age := 14401 }.age ∧ ¬ Profile.default.ageLimit < 2 * { gen14 with age := 14400 }.age)
      ∧ worn.health.state = .normal ∧ worn.shop ≠ .closed := by decide

theorem witness_ShopStateChanges :
    (unkeyed.shop ≠ .closed ∧ unkeyed.health.state = .off)
      ∧ (keyed.shop ≠ .closed ∧ keyed.health.state ≠ .off ∧ keyed.health.state ≠ .faultedSilent)
      ∧ (silentHeld.health.state = .faultedSilent ∧ silentHeld.keyState = .held ∧ silentHeld.cur = some gen14
        ∧ silentHeld.shop ≠ .closed ∧ { silentHeld with keyState := .pending }.keyState ≠ .held)
      ∧ (dormantKeyed.shop = .closed ∧ dormantKeyed.dormant = true ∧ dormantKeyed.cur ≠ none
        ∧ ShopState.opened ≠ .closed ∧ ShopState.opened ≠ .closing)
      ∧ (let w := wake 86 (with86 { dormantKeyed with shop := .closing, cur := some { gen14 with age := 14401 } })
        (w.tun 86).cfg.enabled = true ∧ (w.tun 86).dormant = false ∧ (w.tun 86).keyState = .keyed ∧ (w.tun 86).holdoff = none
          ∧ (w.tun 86).cur = some { gen14 with age := 14401 }) := by decide +kernel

theorem witness_SamplesDecideTheHealth : let p := Profile.default
    let seven := { Health.reset with state := .seeding, seeds := List.replicate 7 200 }
    (seven.state = .seeding ∧ { seven with seeds := List.replicate 6 200 }.seeds.length + 1 < p.seedCount
        ∧ p.seedCount ≤ seven.seeds.length + 1 ∧ p.seedMin ≤ (seven.seeds ++ [200]).sum / 8
        ∧ (seven.seeds ++ [200]).sum / 8 ≤ p.seedMax
        ∧ ¬ (p.seedMin ≤ (List.replicate 8 20001).sum / 8 ∧ (List.replicate 8 20001).sum / 8 ≤ p.seedMax))
      ∧ (healthy.state = .normal ∧ (799 : Int) < 16 * p.threshold ∧ 16 * (p.threshold : Int) ≤ 800
        ∧ |(19200 : Int) - 16 * healthy.refSeed| ≤ 16 * p.reseedBand
        ∧ 16 * (p.reseedBand : Int) < |(19201 : Int) - 16 * healthy.refSeed|)
      ∧ 1 < p.suspectCount ∧ p.suspectCount ≤ { healthy with state := .suspect, suspect := 2 }.suspect + 1 := by decide

/-- A Reference whose Follower is Suspect defers its reseed, and one without such a Follower does not. -/
theorem witness_SamplesDecideTheHealth_deferred :
    let s := followed.setTun 86 { followed.tun 86 with health := { healthy with state := .suspect, suspect := 1 } }
    ((s.tun 1000).cfg.role = .reference ∧ (s.tun 86).cfg.role = .follower ∧ (s.tun 86).cfg.reference = 1000
        ∧ (s.tun 86).health.state = .suspect)
      ∧ keyed.cfg.role ≠ .reference := by decide +kernel

/-- Faulted(Delay): a sample below the threshold, and above it with the snapshot test met or not (R122's values). -/
theorem witness_SamplesDecideTheHealth_faulted :
    let h := { healthy with state := .faultedDelay, settle := 9 }
    h.state = .faultedDelay ∧ Profile.default.settleSamples ≤ min (h.settle + 1) 255 ∧ h.snapshot = none
      ∧ |(4477 : Int) - 4300| ≤ 16 * (Profile.default.settleThreshold : Int)
      ∧ (Int.tdiv (1219 * (Profile.default.releasePct : Int)) 128 < 610 ∧ ¬ Int.tdiv (1219 * (Profile.default.releasePct : Int)) 128 < 609)
      ∧ Health.reset.state = .off ∧ { healthy with state := .unseeded }.state = .unseeded := by decide

theorem witness_EchoAnswers :
    let h := { healthy with outstanding := some { number := 42, departure := 499720 } }
    (h.state ≠ .off ∧ h.state ≠ .faultedSilent ∧ h.outstanding = some { number := 42, departure := 499720 })
      ∧ (∀ o, h.outstanding = some o → o.number ≠ 9)
      ∧ (silentHeld.health.state = .faultedSilent ∧ silentHeld.keyState = .held ∧ silentHeld.cur = some gen14)
      ∧ { silentHeld with keyState := .keyed }.keyState ≠ .held :=
  ⟨by decide, by intro o h; cases h; decide, by decide, by decide⟩

/-! #### The ports and the notice expiries -/

theorem witness_OfficeAndCascadePorts : let m : CascadeEntry := { frame := mgmtFrame 1 1 [], awaited := false }
    let s := { base with cascadeUp := true, cascadeList := [m], cascadeTx := true, officeQueue := [clearFrame] }
    s.rstLow = false ∧ s.officeTx = none ∧ s.officeQueue = { kind := .clear, frame := plain 1 2 3 4 } :: []
      ∧ ({ s with officeTx := some (plain 1 2 3 4) } : State).officeTx ≠ none ∧ base.officeQueue = []
      ∧ s.cascadeUp = true ∧ s.cascadeList ≠ [] ∧ base.cascadeUp = false ∧ s.cascadeTx = true ∧ s.cascadeList = m :: []
      ∧ base.cascadeTx = false ∧ m.frame.good true = true ∧ m.frame.etherType = 0x88B5 ∧ s.officeQueue.length < 512
      ∧ 0 < s.freeSlots ∧ ¬ (m.frame.good false = true) := by decide +kernel

theorem witness_NoticeExpiriesAreTaken :
    let s := { base with flags := 512, reportExpiry := some 5000, holdoffExpiry := some 5000, noticePending := true, station := some 1 }
    s.rstLow = false ∧ s.reportExpiry = some 5000 ∧ s.reached (some 5000) = true
      ∧ { base with flags := 513 }.flags.getLsbD 0 = true ∧ { s with noticeMode := .streaming }.noticeMode = .streaming
      ∧ ¬ (s.flags.getLsbD 0 = true ∨ s.noticeMode = .streaming)
      ∧ (9 < 11 ∧ s.flags.getLsbD 9 = true ∧ s.eventMask.getLsbD 9 = true) ∧ (∀ n, n < 11 → base.flags.getLsbD n = false)
      ∧ { s with holdoffExpiry := none }.holdoffExpiry = none ∧ s.holdoffExpiry ≠ none
      ∧ (s.officeQueue.length < 512 ∧ 0 < s.freeSlots) ∧ s.noticePending = true ∧ base.noticePending = false
      ∧ base.reportExpiry = none ∧ base.holdoffExpiry = none
      ∧ (let q := { s with officeQueue := List.replicate 512 clearFrame }
        q.station ≠ none ∧ ¬ q.officeQueue.length < 512) := by decide +kernel

/-! #### The commands -/

theorem witness_Taken : Taken hdr base ∧ Taken hdr (with86 keyed) ∧ hdr.broadcast = none := by decide +kernel

theorem witness_CommandsAreTurnedAway :
    let b := { hdr with broadcast := some (mgmtFrame 0xFFFF 8 [8]) }
    let busy := { base with progress := some (.level2 0 0) }
    (Instr.readFaults hdr 8).wire = some (hdr, 0x08, [8]) ∧ busy.rstLow = false ∧ busy.progress ≠ none
      ∧ (Instr.readFaults b 8).wire = some (b, 0x08, [8]) ∧ b.broadcast = some (mgmtFrame 0xFFFF 8 [8])
      ∧ (0x08 : Byte) ≠ 0x01 ∧ (0x08 : Byte) ≠ 0x1B ∧ (Instr.identify b).wire = some (b, 0x01, [])
      ∧ (Instr.resetLevel1 b).wire = some (b, 0x1B, [1]) ∧ base.progress = none := by decide +kernel

theorem witness_AgentCommands : (0xFFFE : BitVec 16) ≠ 0xFFFF ∧ hdr.prov = false ∧ { hdr with prov := true }.prov = true
    ∧ base.transportKey = none ∧ ({ base with transportKey := some 5 } : State).transportKey ≠ none := by decide +kernel

theorem witness_ReporterCommands : (State.afterReset 0).flags.getLsbD 0 = true ∧ base.flags.getLsbD 0 = false
    ∧ (8 : Byte).toNat ≤ 8 ∧ 8 < (9 : Byte).toNat ∧ (0 : Byte) = (if NoticeMode.streaming = .streaming then 0 else 1)
    ∧ (1 : Byte) = (if NoticeMode.event = .streaming then 0 else 1) ∧ 1 < (2 : Byte).toNat := by decide +kernel

theorem witness_TableCommands : (47 : Byte).toNat = (47 : EntryId).val ∧ (1 : Byte) = (if IntervalAction.tunnel = .drop then 0 else 1)
    ∧ (1023 : BitVec 16).toNat = (1023 : TunnelId).val ∧ 47 < (48 : Byte).toNat ∧ 1 < (2 : Byte).toNat
    ∧ 1023 < (1024 : BitVec 16).toNat ∧ (16 : Byte).toNat ≤ 16 ∧ 16 < (17 : Byte).toNat := by decide

theorem witness_ApplyTables :
    (∀ i j : EntryId, i ≤ j → j.val < 47 → regional[i].separator.toNat ≤ regional[j].separator.toNat)
      ∧ ((1 : EntryId) ≤ 2 ∧ (2 : EntryId).val < 47
        ∧ ((vecConst 48 Interval.reset).set 2 { separator := 5, action := .drop, base := 0 })[(2 : EntryId)].separator.toNat
          < ((vecConst 48 Interval.reset).set 2 { separator := 5, action := .drop, base := 0 })[(1 : EntryId)].separator.toNat) := by
  decide +kernel

theorem witness_TablesAreSwapped :
    ({ base with progress := some (.applyTables 1 2 false true) } : State).progress = some (.applyTables 1 2 false true)
      ∧ ({ base with progress := some (.applyTables 1 2 true false) } : State).progress = some (.applyTables 1 2 true false)
      ∧ ({ base with progress := some (.applyTables 1 2 true true) } : State).progress = some (.applyTables 1 2 true true)
      ∧ base.progress = none ∧ base.rstLow = false := by decide +kernel

theorem witness_ProfileAndReadCommands : (15 : Byte).toNat = (15 : ProfileId).val ∧ 15 < (16 : Byte).toNat
    ∧ ((with86 keyed).tun 86).cfg.enabled = true ∧ ((with86 keyed).tun 86).cfg.profile = 0
    ∧ (1023 : BitVec 16).toNat = (1023 : TunnelId).val ∧ 1023 < (1024 : BitVec 16).toNat ∧ InRange Profile.default := by decide +kernel

theorem witness_ProfileUnnamed (t : TunnelId) : ¬ ((base.tun t).cfg.enabled = true ∧ (base.tun t).cfg.profile = 15) := by
  have e : base.tun t = Tunnel.reset := vecConst_getElem Tunnel.reset t.val t.isLt
  rw [e]
  decide

/-- The refused forms: a tunnel and values out of range; the fixed field that an enabled tunnel does not take. -/
theorem witness_WriteTunnelChangesTheEntry_refused :
    1023 < ({ tunnel := 1024 } : TunnelWrite).tunnel.toNat
      ∧ (∃ b ∈ ({ tunnel := 86, weight := some 8192 } : TunnelWrite).weight, 8191 < b.toNat)
      ∧ (∃ b ∈ ({ tunnel := 86, snoop := some 2 } : TunnelWrite).snoop, 1 < b.toNat)
      ∧ ({ tunnel := 86, weight := some 8191 } : TunnelWrite).tunnel.toNat = (86 : TunnelId).val
      ∧ ({ tunnel := 86, weight := some 8191 } : TunnelWrite).weight ≠ none ∧ keyed.cfg.enabled = true :=
  ⟨by decide, ⟨8192, rfl, by decide⟩, ⟨2, rfl, by decide⟩, by decide, nofun, rfl⟩

/-- The forms that run: a write of `enabled` in each direction that changes something, and one that does not. -/
theorem witness_WriteTunnelChangesTheEntry_runs :
    (¬ ∃ b ∈ ({ tunnel := 86, enabled := some 1 } : TunnelWrite).enabled, 1 < b.toNat)
      ∧ ({ tunnel := 86, enabled := some 1 } : TunnelWrite).snoop ≠ some 1 ∧ keyed.cfg.enabled = true
      ∧ ({ tunnel := 86, enabled := some 1 } : TunnelWrite).weight = none
      ∧ Tunnel.reset.cfg.enabled = false ∧ Tunnel.reset.keyState ≠ .unkeyed :=
  ⟨by rintro ⟨b, hb, h⟩; cases hb; exact absurd h (by decide), nofun, rfl, rfl, rfl, nofun⟩

/-- Enabling an UNKEYED tunnel, its shop Closed or not, and setting the snoop of one whose shop is Closed. -/
theorem witness_WriteTunnelChangesTheEntry_keying :
    let x : Tunnel := { unkeyed with cfg := { TunnelConfig.reset with snoop := false } }
    x.cfg.enabled = false ∧ x.keyState = .unkeyed ∧ x.shop ≠ .closed ∧ { x with shop := .closed }.shop = .closed
      ∧ ({ tunnel := 86, snoop := some 1 } : TunnelWrite).snoop = some 1 ∧ x.cfg.snoop = false ∧ x.shop ≠ .unknown :=
  ⟨rfl, rfl, nofun, rfl, rfl, rfl, nofun⟩

theorem witness_KeyCommands : (86 : BitVec 16).toNat = (86 : TunnelId).val
    ∧ ({ with86 keyed with transportKey := some 5 } : State).transportKey = some 5
    ∧ (∀ w ∈ (some (⟨5, 87, 0⟩ : Wrapping)), (some 5 : Option (BitVec 256)) ≠ some w.key ∨ w.tunnel ≠ 86)
    ∧ (∀ w ∈ (some (⟨6, 86, 0⟩ : Wrapping)), (some 5 : Option (BitVec 256)) ≠ some w.key ∨ w.tunnel ≠ 86)
    ∧ keyed.keyState ≠ .noSecret ∧ keyed.keyState ≠ .bootstrap ∧ keyed.cfg.enabled = true ∧ keyed.dormant = false
    ∧ keyed.keyState = .keyed ∧ keyed.cur = some gen14 ∧ unkeyed.keyState = .unkeyed ∧ unkeyed.cur = none
    ∧ (dormantKeyed.dormant = true ∧ dormantKeyed.keyState = .keyed ∧ dormantKeyed.cur = some gen14)
    ∧ (dormantUnkeyed.dormant = true ∧ dormantUnkeyed.cfg.enabled = true ∧ dormantUnkeyed.keyState = .unkeyed ∧ dormantUnkeyed.cur = none)
    ∧ Tunnel.reset.cfg.enabled = false ∧ offering.keyState = .offering 1 := by decide +kernel

/-- Tunnels without a generation to erase, the derivation in flight with and without an owner to lose, and another tunnel's entry. -/
theorem witness_KeyCommands_derivations :
    let boots := { unkeyed with keyState := .bootstrap, gen0 := none }
    let flight := fun k : DerivationKind => ({ owner := some 86, kind := k, inputs := ⟨99, 3, 86, 15, 7, 8⟩ } : KduFlight)
    let s := { with86 boots with
      kduQueue := [{ tunnel := 5, kind := .generation 15 7 8 }], kduFlight := some (flight .bootstrap) }
    boots.keyState = .bootstrap ∧ Tunnel.reset.keyState = .noSecret ∧ (s.tun 86).keyState = .bootstrap
      ∧ (s.kduFlight = some (flight .bootstrap) ∧ (flight .bootstrap).owner = some 86)
      ∧ (flight (.generation 15 7 8)).kind ≠ .bootstrap ∧ s.kduQueue = [{ tunnel := 5, kind := .generation 15 7 8 }]
      ∧ Taken hdr s := by decide +kernel

/-- ERASE_KEYS generations leaves a bootstrap under way, and aborts a generation's derivation of its tunnel alone (R61, R78). -/
theorem test_erase_and_derivations :
    let e : KduEntry := { tunnel := 5, kind := .generation 15 7 8 }
    let d : KduFlight := { owner := some 86, kind := .generation 15 7 8, inputs := ⟨99, 3, 86, 15, 7, 8⟩ }
    let b := { d with kind := .bootstrap }
    let run := fun (x : Tunnel) (f : KduFlight) =>
      after (.eraseKeysGenerations hdr 86) { with86 x with kduQueue := [e], kduFlight := some f }
    (run { keyed with keyState := .deriv 15 } d).kduFlight = some { d with owner := none }
      ∧ (run { keyed with keyState := .deriv 15 } d).kduQueue = [e]
      ∧ (run { unkeyed with keyState := .bootstrap, gen0 := none } b).kduFlight = some b
      ∧ ((run { unkeyed with keyState := .bootstrap, gen0 := none } b).tun 86).keyState = .bootstrap := by decide +kernel

theorem witness_TunnelSettingCommands : (1023 : BitVec 16).toNat = (1023 : TunnelId).val ∧ 1023 < (1024 : BitVec 16).toNat
    ∧ 3 < (4 : Byte).toNat ∧ unkeyed.health.state = .off ∧ keyed.health.state ≠ .off
    ∧ (silentHeld.health.state = .faultedSilent ∧ silentHeld.keyState = .held ∧ silentHeld.cur = some gen14)
    ∧ { silentHeld with keyState := .keyed }.keyState ≠ .held := by decide

theorem witness_UplinkCommands : (3 : Byte).toNat = (3 : UplinkId).val ∧ 3 < (4 : Byte).toNat ∧ up.link = .up
    ∧ Uplink.reset.link ≠ .up ∧ Uplink.reset.carrier = false ∧ { Uplink.reset with carrier := true }.carrier = true := by decide

/-- A stop keeps the consecutive receive errors (log entry 14). -/
theorem test_stop_keeps_errors : ((after (.uplinkStop hdr 0 0) (base.setUplink 0 { up with rxErrors := 15 })).uplink 0).rxErrors = 15
    ∧ ((after (.uplinkStop hdr 0 0) (base.setUplink 0 up)).uplink 0).txLost = 1 := by decide +kernel

/-- RESET under broadcast: the bridge takes it at every level, with the cascade link up or down, and its list full or not. -/
theorem witness_ResetUnderBroadcast : let f := mgmtFrame 0xFFFF 0x1B [3]
    let b := { hdr with broadcast := some f }
    b.broadcast = some f ∧ (Instr.resetLevel3 b).wellFormed = true ∧ base.rstLow = false ∧ base.progress = none
      ∧ base.cascadeUp = false ∧ ({ base with cascadeUp := true } : State).cascadeUp = true := by decide +kernel

/-- A level 3 waits for its forwarded frame, and for none while the cascade link is down (R172). -/
theorem test_level_three_broadcast : let b := { hdr with broadcast := some (mgmtFrame 0xFFFF 0x1B [3]) }
    (after (.resetLevel3 b) { base with cascadeUp := true }).cascadeList.map CascadeEntry.awaited = [true]
      ∧ (after (.resetLevel3 b) base).cascadeList = [] ∧ (after (.resetLevel3 b) base).station = none
      ∧ (after (.resetLevel1 b) { base with cascadeUp := true, overflow := 3 }).cascadeList.map CascadeEntry.awaited = [false]
      ∧ (after (.resetLevel1 b) { base with overflow := 3 }).overflow = 0 := by decide +kernel

theorem witness_ResetCommands : ({ base with cascadeUp := true } : State).cascadeUp = true
    ∧ ({ base with cascadeList := List.replicate 15 ⟨plain 0 0 0 0, false⟩ } : State).cascadeList.length < 16
    ∧ 16 ≤ ({ base with cascadeList := List.replicate 16 ⟨plain 0 0 0 0, false⟩ } : State).cascadeList.length := by decide +kernel

theorem witness_ResetsTakeEffect :
    ({ base with progress := some (.level2 1 2) } : State).progress = some (.level2 1 2) ∧ base.rstLow = false ∧ low.rstLow = true
      ∧ ({ base with progress := some (.level3 1 2) } : State).progress = some (.level3 1 2)
      ∧ (∀ e ∈ [(⟨plain 0 0 0 0, false⟩ : CascadeEntry)], e.awaited = false)
      ∧ (∃ e ∈ [(⟨plain 0 0 0 0, true⟩ : CascadeEntry)], e.awaited = true) := by decide +kernel

end Sys2Proof.Tests
end

