-- ==== Sys2Proof/Proofs/StoreKey.lean ====
section

namespace Sys2Proof.Proofs

open Sys2Proof Sys2Proof.Machine

/-- The store key is a bit field of the destination address, whose lowest bit stands `16 - offset` above the address's own (R5). -/
theorem storeKey_eq_extractLsb' (offset : Nat) (f : EthFrame) :
    storeKey offset f = ((be32At f.bytes 30).extractLsb' (16 - offset) 16).toNat := by
  simp only [storeKey, BitVec.extractLsb'_toNat, Nat.reducePow]

theorem storeKey_lt (offset : Nat) (f : EthFrame) : storeKey offset f < 65536 := by
  rw [storeKey_eq_extractLsb']
  exact BitVec.isLt _

theorem ofNat_storeKey (offset : Nat) (f : EthFrame) :
    BitVec.ofNat 16 (storeKey offset f) = (be32At f.bytes 30).extractLsb' (16 - offset) 16 := by
  rw [storeKey_eq_extractLsb', BitVec.ofNat_toNat, BitVec.setWidth_eq]

/-- A 16-bit field of a 32-bit address, counted from the top: bit `16 - offset` from the bottom up is bit `offset` from the top down. -/
theorem getMsbD_extractLsb'_of_offset {offset i : Nat} (a : BitVec 32) (hoffset : offset ≤ 16) (hi : i < 16) :
    (a.extractLsb' (16 - offset) 16).getMsbD i = a.getMsbD (offset + i) := by
  have hfield : 15 - i < 16 := by omega
  have haddress : offset + i < 32 := by omega
  have hsame : 16 - offset + (16 - 1 - i) = 32 - 1 - (offset + i) := by omega
  simp [BitVec.getMsbD, hi, hfield, haddress, hsame]

theorem getMsbD_storeKey {offset i : Nat} (f : EthFrame) (hoffset : offset ≤ 16) (hi : i < 16) :
    (BitVec.ofNat 16 (storeKey offset f)).getMsbD i = (be32At f.bytes 30).getMsbD (offset + i) := by
  rw [ofNat_storeKey, getMsbD_extractLsb'_of_offset _ hoffset hi]

/-- Only the destination address plays a part in the key (R5). -/
theorem storeKey_congr (offset : Nat) {f g : EthFrame} (haddress : be32At f.bytes 30 = be32At g.bytes 30) :
    storeKey offset f = storeKey offset g := by
  rw [storeKey_eq_extractLsb', storeKey_eq_extractLsb', haddress]

/-- Settles O15: the key is a bit field of the address, read from the top. -/
theorem storeKeyBits : Obligations.StoreKeyBits := by
  unfold Obligations.StoreKeyBits
  constructor
  · intro offset f hoffset
    exact ⟨storeKey_lt offset f, fun i hi => getMsbD_storeKey f hoffset hi⟩
  · intro offset f g haddress
    exact storeKey_congr offset haddress

end Sys2Proof.Proofs
end

section

namespace Sys2Proof.Proofs

open Sys2Proof Sys2Proof.Machine

/-! ### ACCEPT: taken against the exchange in progress, or stale (R68) -/

/-- An ACCEPT answers the exchange in progress when it names its target and repeats the nonce the bridge holds (R68). -/
def AnswersExchange (x : Tunnel) (target : BitVec 8) (nonce : BitVec 128) : Prop :=
  x.keyState = .offering target ∧ ∃ o, x.nonce = some o ∧ o.value = nonce

theorem answersExchange_iff (x : Tunnel) (target : BitVec 8) (nonce : BitVec 128) :
    AnswersExchange x target nonce ↔ x.keyState = .offering target ∧ x.nonce.any (fun o => o.value == nonce) = true := by
  simp only [AnswersExchange, Option.any_eq_true, beq_iff_eq]

theorem takeAccept_of_answersExchange {t : TunnelId} {target : BitVec 8} {nonce : BitVec 128} {s : State}
    (shopNonce : BitVec 128) (h : AnswersExchange (s.tun t) target nonce) :
    takeAccept t target nonce shopNonce s
      = (queueDerivation t (.generation target nonce shopNonce) s).setTun t
          { s.tun t with nonce := none, attempts := 0, keyState := .deriv target } :=
  if_pos ((answersExchange_iff _ _ _).mp h)

theorem takeAccept_of_not_answersExchange {t : TunnelId} {target : BitVec 8} {nonce : BitVec 128} {s : State}
    (shopNonce : BitVec 128) (h : ¬ AnswersExchange (s.tun t) target nonce) :
    takeAccept t target nonce shopNonce s
      = s.modTunCounters t fun c => { c with staleControl := satInc c.staleControl } :=
  if_neg (h ∘ (answersExchange_iff _ _ _).mpr)

/-! ### ASK: a renewal, initial keying, or nothing (R65, R66, R71) -/

theorem renewable_iff (k : KeyState) : k.renewable = true ↔ k = .keyed ∨ k = .pending ∨ k = .held := by
  cases k <;> simp [KeyState.renewable]

theorem startRenewal_eq_attempt {t : TunnelId} {s : State} {c : CurGen} (hcur : (s.tun t).cur = some c)
    (hrenew : (s.tun t).keyState.renewable = true) :
    startRenewal t s = attempt t (nextGeneration c.number)
      (s.setTun t { s.tun t with
        jitter := none, holdoff := none, attempts := 0, keyState := .offering (nextGeneration c.number) }) := by
  simp only [startRenewal, hcur, hrenew, if_true, State.modTun]

theorem startInitialKeying_eq_attempt {t : TunnelId} {s : State} (henabled : (s.tun t).cfg.enabled = true)
    (hstate : (s.tun t).keyState = .unkeyed) :
    startInitialKeying t s = attempt t 1
      (s.setTun t { s.tun t with holdoff := none, attempts := 0, keyState := .offering 1 }) :=
  if_pos ⟨henabled, hstate⟩

theorem takeAsk_of_renewable {t : TunnelId} {s : State} (h : (s.tun t).keyState.renewable = true) :
    takeAsk t s = startRenewal t s :=
  if_pos h

theorem takeAsk_of_unkeyed {t : TunnelId} {s : State} (h : (s.tun t).keyState = .unkeyed) :
    takeAsk t s = startInitialKeying t s :=
  if_neg (by simp [h, KeyState.renewable])

/-- Neither renewable nor UNKEYED, the tunnel ignores the request (R71). -/
theorem takeAsk_idle {t : TunnelId} {s : State} (hrenew : (s.tun t).keyState.renewable = false)
    (hstate : (s.tun t).keyState ≠ .unkeyed) : takeAsk t s = s := by
  have hkeying : takeAsk t s = startInitialKeying t s := if_neg (by simp [hrenew])
  rw [hkeying]
  exact startInitialKeying_idle t s fun ⟨_, h⟩ => hstate h

/-- An exchange or its derivation under way leaves nothing for an ASK to start (R71). -/
theorem takeAsk_of_exchange {t : TunnelId} {s : State} {g : BitVec 8}
    (h : (s.tun t).keyState = .offering g ∨ (s.tun t).keyState = .deriv g) : takeAsk t s = s := by
  obtain h | h := h <;> exact takeAsk_idle (by simp [h, KeyState.renewable]) (by simp [h])

/-- Settles O37: an ACCEPT by whether it answers the exchange in progress, an ASK by the keying state. -/
theorem renewalControllerTakesControl : Obligations.RenewalControllerTakesControl := by
  unfold Obligations.RenewalControllerTakesControl
  intro t s x
  refine ⟨?accepted, ?stale, ?renewal, ?initialKeying, ?ignored⟩
  case accepted =>
    intro target shopNonce o hstate hnonce
    exact takeAccept_of_answersExchange shopNonce ⟨hstate, o, hnonce, rfl⟩
  case stale =>
    intro target nonce shopNonce hstale
    exact takeAccept_of_not_answersExchange shopNonce hstale
  case renewal =>
    intro c hstate hcur
    have hrenew : (s.tun t).keyState.renewable = true := (renewable_iff _).mpr hstate
    exact (takeAsk_of_renewable hrenew).trans (startRenewal_eq_attempt hcur hrenew)
  case initialKeying =>
    intro hstate henabled
    exact (takeAsk_of_unkeyed hstate).trans (startInitialKeying_eq_attempt henabled hstate)
  case ignored =>
    rintro ⟨g, hstate⟩
    exact takeAsk_of_exchange hstate

end Sys2Proof.Proofs
end

section

namespace Sys2Proof.Proofs

open Sys2Proof Sys2Proof.Machine

/-! ### The filter step: toward the target, never past it, and not at rest while they stand 256 or more apart (R83, R117) -/

/-- Truncation toward zero treats both directions alike, so a fact about a rising filter gives the one about a falling filter. -/
theorem filterStep_neg (current target : Int) (beta : Nat) :
    filterStep (-current) (-target) beta = -filterStep current target beta := by
  have hflip : (-target - -current) * (beta : Int) = -((target - current) * beta) := by ring
  simp only [filterStep, hflip, Int.neg_tdiv]
  ring

theorem filterStep_of_le {current target : Int} (beta : Nat) (h : current ≤ target) :
    filterStep current target beta = current + (target - current) * beta / 256 := by
  have hdistance : 0 ≤ (target - current) * (beta : Int) := mul_nonneg (by omega) (by omega)
  rw [filterStep, Int.tdiv_eq_ediv_of_nonneg hdistance]

theorem filterStep_bounds_of_le {current target : Int} {beta : Nat} (h : current ≤ target) (hbeta : beta ≤ 256) :
    current ≤ filterStep current target beta ∧ filterStep current target beta ≤ target := by
  have hlow : 0 ≤ (target - current) * (beta : Int) := mul_nonneg (by omega) (by omega)
  have hhigh : (target - current) * (beta : Int) ≤ (target - current) * 256 :=
    mul_le_mul_of_nonneg_left (by omega) (by omega)
  rw [filterStep_of_le beta h]
  omega

theorem lt_filterStep {current target : Int} {beta : Nat} (hbeta : 1 ≤ beta) (h : current + 256 ≤ target) :
    current < filterStep current target beta := by
  have hmove : target - current ≤ (target - current) * (beta : Int) :=
    le_mul_of_one_le_right (by omega) (by omega)
  rw [filterStep_of_le beta (by omega)]
  omega

theorem filterStep_lt {current target : Int} {beta : Nat} (hbeta : 1 ≤ beta) (h : target + 256 ≤ current) :
    filterStep current target beta < current := by
  have hrise := lt_filterStep (current := -current) (target := -target) hbeta (by omega)
  rw [filterStep_neg] at hrise
  omega

theorem filterStep_bounds {beta : Nat} (current target : Int) (hbeta : beta ≤ 256) :
    min current target ≤ filterStep current target beta ∧ filterStep current target beta ≤ max current target := by
  rcases le_total current target with hrising | hfalling
  · rw [min_eq_left hrising, max_eq_right hrising]
    exact filterStep_bounds_of_le hrising hbeta
  · have hbounds := filterStep_bounds_of_le (neg_le_neg hfalling) hbeta
    rw [filterStep_neg] at hbounds
    omega

/-! ### The rate filter (R83) -/

/-- The filter stays between two numbers that are not negative, so reading its result as a natural number loses nothing. -/
theorem rateFilter_eq_filterStep {beta : Nat} (rate sample : Nat) (hbeta : beta ≤ 256) :
    (rateFilter rate sample beta : Int) = filterStep rate (16 * sample) beta := by
  have hbounds := filterStep_bounds (rate : Int) (16 * sample) hbeta
  exact Int.toNat_of_nonneg (by omega)

theorem rateFilter_bounds {beta : Nat} (rate sample : Nat) (hbeta : beta ≤ 256) :
    min rate (16 * sample) ≤ rateFilter rate sample beta ∧ rateFilter rate sample beta ≤ max rate (16 * sample) := by
  have hbounds := filterStep_bounds (rate : Int) (16 * sample) hbeta
  rw [← rateFilter_eq_filterStep rate sample hbeta] at hbounds
  omega

theorem lt_rateFilter {rate sample beta : Nat} (hpos : 1 ≤ beta) (hbeta : beta ≤ 256) (h : rate + 256 ≤ 16 * sample) :
    rate < rateFilter rate sample beta := by
  have hrise := lt_filterStep (current := rate) (target := 16 * sample) hpos (by omega)
  rw [← rateFilter_eq_filterStep rate sample hbeta] at hrise
  omega

theorem rateFilter_lt {rate sample beta : Nat} (hpos : 1 ≤ beta) (hbeta : beta ≤ 256) (h : 16 * sample + 256 ≤ rate) :
    rateFilter rate sample beta < rate := by
  have hfall := filterStep_lt (current := rate) (target := 16 * sample) hpos (by omega)
  rw [← rateFilter_eq_filterStep rate sample hbeta] at hfall
  omega

/-! ### Lead time, horizon and due tests (R84 to R87) -/

/-- The largest delay drawn is the base and one less than the range (R84, R91). -/
theorem leadTime_eq {s : State} (p : Profile) (hrange : 1 ≤ s.jitterRange) :
    leadTime s p = s.jitterBase + (s.jitterRange - 1) + p.response * (1 + p.retryLimit) + p.derivation := by
  rw [leadTime, Nat.add_sub_assoc hrange]

/-- Rounding up: a whole number bounds the horizon when it bounds R W / 160; the saturation value always does (R85). -/
theorem horizon_le_iff {h : Nat} (rate lead : Nat) (hword : h ≤ 4294967295) :
    horizon rate lead ≤ h ↔ rate * lead ≤ 160 * h ∨ h = 4294967295 := by
  rw [horizon, min_le_iff]
  omega

theorem renewalDue_iff (c : CurGen) (p : Profile) (rate lead : Nat) :
    renewalDue c p rate lead = true ↔
      p.frameLimit ≤ c.lastSeq + horizon rate lead + 16 ∨ p.ageLimit * 100 ≤ c.age * 100 + lead := by
  rw [renewalDue, Bool.or_eq_true, decide_eq_true_iff, decide_eq_true_iff, Nat.sub_le_iff_le_add]

/-- Settles O18: the filter through the bounds of its step, then the lead time, the horizon and the due tests by their equations. -/
theorem rateAndDueTests : Obligations.RateAndDueTests := by
  unfold Obligations.RateAndDueTests
  refine ⟨?filter, ?lead, ?horizon, ?due⟩
  case filter =>
    intro rate sample beta hpos hbyte
    have hbeta : beta ≤ 256 := by omega
    obtain ⟨hlow, hhigh⟩ := rateFilter_bounds rate sample hbeta
    exact ⟨rateFilter_eq_filterStep rate sample hbeta, hlow, hhigh, lt_rateFilter hpos hbeta, rateFilter_lt hpos hbeta⟩
  case lead =>
    intro s p hrange
    exact leadTime_eq p hrange
  case horizon =>
    intro rate lead h hword
    exact horizon_le_iff rate lead hword
  case due =>
    intro c p rate lead _
    exact renewalDue_iff c p rate lead

end Sys2Proof.Proofs
end

section

namespace Sys2Proof.Proofs

open Sys2Proof Sys2Proof.Machine

/-! ### A command row whose operation answers at once (R164, R166) -/

/-- One rule for every command: its row in the table (`hrow`, by unfolding), and what its operation answers (`hop`). -/
theorem exec_answered {h : CmdHeader} {s r : State} {c : Instr} {code : Byte} {op : CmdOp} {st : Status} {payload : List Byte}
    (hrow : exec c s = .next (s.live (commandRow h code op))) (ht : Taken h s)
    (hop : op (ownCtx h) (s.learned h) = (r, .now st payload)) : exec c s = .next (r.answered h code st payload) := by
  rw [hrow, commandRow_taken h code op s ht, hop, State.afterAnswer]

/-! ### Operands: tunnel numbers and shop states (R176) -/

theorem tunnelArg_eq_some {b : BitVec 16} {t : TunnelId} (h : b.toNat = t.val) : tunnelArg b = some t := by
  have hrange : t.val < 1024 := t.isLt
  simp only [tunnelArg, h, hrange, dite_true]

theorem tunnelArg_eq_none {b : BitVec 16} (h : 1023 < b.toNat) : tunnelArg b = none :=
  dif_neg (by omega)

theorem shopArg_code (shop : ShopState) : shopArg (BitVec.ofNat 8 shop.code) = some shop := by
  cases shop <;> rfl

theorem shopArg_eq_none {shop : Byte} (h : 3 < shop.toNat) : shopArg shop = none := by
  unfold shopArg
  split
  case h_5 => rfl
  all_goals omega

/-! ### A tunnel number above 1023 is refused by every command that names one -/

section
variable {b : BitVec 16} (hrange : 1023 < b.toNat) (ctx : CmdCtx) (s : State)
include hrange

theorem opSetShopState_of_bad_tunnel (shop : Byte) : opSetShopState b shop ctx s = (s, .now .badArg []) := by
  simp only [opSetShopState, tunnelArg_eq_none hrange]

theorem opReseed_of_bad_tunnel : opReseed b ctx s = (s, .now .badArg []) := by
  simp only [opReseed, tunnelArg_eq_none hrange]

theorem opInstallSecret_of_bad_tunnel (block : Option Wrapping) : opInstallSecret b block ctx s = (s, .now .badArg []) := by
  simp only [opInstallSecret, tunnelArg_eq_none hrange]

theorem opEraseGenerations_of_bad_tunnel : opEraseGenerations b ctx s = (s, .now .badArg []) := by
  simp only [opEraseGenerations, tunnelArg_eq_none hrange]

theorem opEraseAll_of_bad_tunnel : opEraseAll b ctx s = (s, .now .badArg []) := by
  simp only [opEraseAll, tunnelArg_eq_none hrange]

theorem opRenewNow_of_bad_tunnel : opRenewNow b ctx s = (s, .now .badArg []) := by
  simp only [opRenewNow, tunnelArg_eq_none hrange]

end

/-! ### SET_SHOP_STATE and RESEED at a tunnel (R125, R138) -/

/-- Clearing snoop enabled leaves the shop state, so the change of R138 compares with the state before the command. -/
theorem setShop_setTun (t : TunnelId) (new : ShopState) (s : State) (x : Tunnel) :
    setShop t new (s.setTun t x) = if x.shop = new then s.setTun t x else changeShop t new (s.setTun t x) := by
  rw [setShop, State.tun_setTun_self]

theorem opSetShopState_of_shop {b : BitVec 16} {t : TunnelId} (hb : b.toNat = t.val) (new : ShopState) (ctx : CmdCtx) (s : State) :
    let y := s.setTun t { s.tun t with cfg := { (s.tun t).cfg with snoop := false } }
    opSetShopState b (BitVec.ofNat 8 new.code) ctx s
      = (settle t (if (s.tun t).shop = new then y else changeShop t new y), .now .ok (num8 (s.tun t).shop.code)) := by
  simp only [opSetShopState, tunnelArg_eq_some hb, shopArg_code, State.modTun, setShop_setTun]

theorem opSetShopState_of_bad_shop {b : BitVec 16} {t : TunnelId} {shop : Byte} (hb : b.toNat = t.val) (hshop : 3 < shop.toNat)
    (ctx : CmdCtx) (s : State) : opSetShopState b shop ctx s = (s, .now .badArg []) := by
  simp only [opSetShopState, tunnelArg_eq_some hb, shopArg_eq_none hshop]

theorem opReseed_of_off {b : BitVec 16} {t : TunnelId} {s : State} (hb : b.toNat = t.val)
    (hoff : (s.tun t).health.state = .off) (ctx : CmdCtx) : opReseed b ctx s = (s, .now .badState []) := by
  simp only [opReseed, tunnelArg_eq_some hb, hoff, if_true]

theorem opReseed_of_not_off {b : BitVec 16} {t : TunnelId} {s : State} (hb : b.toNat = t.val)
    (hoff : (s.tun t).health.state ≠ .off) (ctx : CmdCtx) :
    opReseed b ctx s = (settle t (reseedTunnel t s), .now .ok (num8 (s.tun t).health.state.code)) := by
  simp only [opReseed, tunnelArg_eq_some hb, hoff, if_false]

/-! ### The effect of RESEED by the health state (R123, R125) -/

/-- The tunnel in Seeding, a fault released with detail 5: all of RESEED but what the Renewal Controller does with the release of a
Silent fault (R74, R125). -/
def reseeded (t : TunnelId) (s : State) : State :=
  (if (s.tun t).health.state = .faultedDelay ∨ (s.tun t).health.state = .faultedSilent then post .release (some t.val) 5 s
    else s).setTun t { s.tun t with health := (s.tun t).health.toSeeding }

theorem reseeded_tun (t : TunnelId) (s : State) :
    (reseeded t s).tun t = { s.tun t with health := (s.tun t).health.toSeeding } := State.tun_setTun_self _ _ _

theorem reseedTunnel_of_silent {t : TunnelId} {s : State} (h : (s.tun t).health.state = .faultedSilent) :
    reseedTunnel t s = silentReleased t (reseeded t s) := by
  simp [reseedTunnel, h, releaseSilent, reseeded, postTunnel, State.modHealth, State.modTun]

theorem reseedTunnel_of_not_silent {t : TunnelId} {s : State} (h : (s.tun t).health.state ≠ .faultedSilent) :
    reseedTunnel t s = reseeded t s := by
  by_cases hdelay : (s.tun t).health.state = .faultedDelay
  · simp [reseedTunnel, hdelay, releaseDelay, reseeded, postTunnel, State.modHealth, State.modTun]
  · have hseed : reseedTunnel t s = s.modHealth t Health.toSeeding := by
      unfold reseedTunnel
      split
      · exact absurd ‹_› h
      · exact absurd ‹_› hdelay
      · rfl
    simp [hseed, hdelay, h, reseeded, State.modHealth, State.modTun]

theorem silentReleased_of_not_held {t : TunnelId} {s : State} (h : (s.tun t).keyState ≠ .held) : silentReleased t s = s :=
  if_neg h

theorem silentReleased_of_held {t : TunnelId} {s : State} (h : (s.tun t).keyState = .held) :
    silentReleased t s = startRenewal t s :=
  if_pos h

/-- Without a Silent fault on a HELD tunnel, RESEED starts no renewal. -/
theorem reseedTunnel_eq_reseeded {t : TunnelId} {s : State}
    (h : (s.tun t).health.state ≠ .faultedSilent ∨ (s.tun t).keyState ≠ .held) : reseedTunnel t s = reseeded t s := by
  by_cases hsilent : (s.tun t).health.state = .faultedSilent
  · have hheld : ((reseeded t s).tun t).keyState ≠ .held := by
      rw [reseeded_tun]
      exact h.resolve_left (not_not_intro hsilent)
    rw [reseedTunnel_of_silent hsilent, silentReleased_of_not_held hheld]
  · exact reseedTunnel_of_not_silent hsilent

/-- The release of a Silent fault on a HELD tunnel starts its renewal (R74). -/
theorem reseedTunnel_eq_attempt {t : TunnelId} {s : State} {c : CurGen} (hsilent : (s.tun t).health.state = .faultedSilent)
    (hheld : (s.tun t).keyState = .held) (hcur : (s.tun t).cur = some c) :
    reseedTunnel t s = attempt t (nextGeneration c.number) ((reseeded t s).setTun t { (reseeded t s).tun t with
      jitter := none, holdoff := none, attempts := 0, keyState := .offering (nextGeneration c.number) }) := by
  have hkey : ((reseeded t s).tun t).keyState = .held := by rw [reseeded_tun]; exact hheld
  have hgen : ((reseeded t s).tun t).cur = some c := by rw [reseeded_tun]; exact hcur
  have hrenew : ((reseeded t s).tun t).keyState.renewable = true := (renewable_iff _).mpr (.inr (.inr hkey))
  rw [reseedTunnel_of_silent hsilent, silentReleased_of_held hkey, startRenewal_eq_attempt hgen hrenew]

/-- Settles O57: each command by what its operation answers, RESEED's effect by its health state. -/
theorem tunnelSettingCommands : Obligations.TunnelSettingCommands := by
  unfold Obligations.TunnelSettingCommands
  intro h s ht q
  refine ⟨?tunnel, ?jitter, ?retention, ?range⟩
  case tunnel =>
    intro t b hb x y
    refine ⟨?shop, ?badShop, ?off, ?reseed⟩
    case shop =>
      intro new
      exact exec_answered rfl ht (opSetShopState_of_shop hb new _ q)
    case badShop =>
      intro shop hshop
      exact exec_answered rfl ht (opSetShopState_of_bad_shop hb hshop _ q)
    case off =>
      intro hoff
      exact exec_answered rfl ht (opReseed_of_off (s := q) hb hoff _)
    case reseed =>
      intro hoff
      refine ⟨reseedTunnel t q, exec_answered rfl ht (opReseed_of_not_off (s := q) hb hoff _), ?_⟩
      exact ⟨reseedTunnel_eq_reseeded (s := q), fun c hsilent hheld hcur => reseedTunnel_eq_attempt (s := q) hsilent hheld hcur⟩
  case jitter =>
    intro seed base range g n
    exact exec_answered rfl ht rfl
  case retention =>
    intro bank segment
    exact exec_answered rfl ht rfl
  case range =>
    intro b shop block hrange
    exact ⟨exec_answered rfl ht (opSetShopState_of_bad_tunnel hrange _ q shop),
      exec_answered rfl ht (opReseed_of_bad_tunnel hrange _ q),
      exec_answered rfl ht (opInstallSecret_of_bad_tunnel hrange _ q block),
      exec_answered rfl ht (opEraseGenerations_of_bad_tunnel hrange _ q),
      exec_answered rfl ht (opEraseAll_of_bad_tunnel hrange _ q),
      exec_answered rfl ht (opRenewNow_of_bad_tunnel hrange _ q)⟩

end Sys2Proof.Proofs
end

section

namespace Sys2Proof.Proofs

open Sys2Proof Sys2Proof.Machine

/-! ### Fields of a reply (R176, R177) -/

theorem be16At_bytes16 (x : BitVec 16) : be16At (bytes16 x) 0 = x :=
  BitVec.extractLsb'_append_extractLsb' (w := 8) (len := 8)

theorem be32At_bytes32 (x : BitVec 32) : be32At (bytes32 x) 0 = x :=
  calc be32At (bytes32 x) 0
    _ = (x.extractLsb' 24 8 ++ x.extractLsb' 16 8) ++ (x.extractLsb' 8 8 ++ x.extractLsb' 0 8) := rfl
    _ = x.extractLsb' 16 16 ++ x.extractLsb' 0 16 :=
        congrArg₂ (· ++ ·) (BitVec.extractLsb'_append_extractLsb'_eq_extractLsb' (start₁ := 16) rfl)
          (BitVec.extractLsb'_append_extractLsb'_eq_extractLsb' (start₁ := 0) rfl)
    _ = x := BitVec.extractLsb'_append_extractLsb' (w := 16) (len := 16)

/-- A mask stored as a set of the eleven flags is answered without its five high bits. -/
theorem flagBytes_setWidth (mask : BitVec 16) : flagBytes (mask.setWidth 11) = bytes16 (mask &&& 0x07FF) := by
  have hkept : (mask.setWidth 11).setWidth 16 = mask &&& 0x07FF := by
    apply BitVec.eq_of_toNat_eq
    rw [BitVec.toNat_setWidth, BitVec.toNat_setWidth, BitVec.toNat_and]
    calc mask.toNat % 2 ^ 11 % 2 ^ 16
      _ = mask.toNat % 2 ^ 11 := by omega
      _ = mask.toNat &&& (2 ^ 11 - 1) := (Nat.and_two_pow_sub_one_eq_mod _ 11).symm
  rw [flagBytes, hkept]

/-- The presence byte is one byte whatever the subject, so every field of a record stands at a fixed place (R177). -/
theorem faultRecord_bytes (r : FaultRecord) :
    r.bytes = num8 r.kind.code ++ [if r.subject = none then 0 else 1] ++ num16 (r.subject.getD 0) ++ bytes32 r.detail
      ++ num16 r.count ++ bytes32 r.first ++ bytes32 r.last := by
  have hpresent : bool8 r.subject.isSome = [if r.subject = none then 0 else 1] := by
    cases r.subject <;> rfl
  rw [FaultRecord.bytes, hpresent]

theorem faultRecord_layout (r : FaultRecord) : r.bytes.length = 18 ∧ byteAt r.bytes 0 = BitVec.ofNat 8 r.kind.code
    ∧ byteAt r.bytes 1 = (if r.subject = none then 0 else 1) ∧ be16At r.bytes 2 = BitVec.ofNat 16 (r.subject.getD 0)
    ∧ be32At r.bytes 4 = r.detail ∧ be16At r.bytes 8 = BitVec.ofNat 16 r.count ∧ be32At r.bytes 10 = r.first
    ∧ be32At r.bytes 14 = r.last := by
  rw [faultRecord_bytes]
  exact ⟨rfl, rfl, rfl, be16At_bytes16 _, be32At_bytes32 r.detail, be16At_bytes16 _, be32At_bytes32 r.first,
    be32At_bytes32 r.last⟩

/-! ### The mode in force and the event mask (R157, R159) -/

theorem maskedFlagSet_iff (s : State) : s.maskedFlagSet = true ↔ s.flags &&& s.eventMask ≠ 0 :=
  bne_iff_ne

theorem modeInForce_eq_streaming_iff (s : State) :
    s.modeInForce = .streaming ↔ s.flags.getLsbD 0 = true ∨ s.noticeMode = .streaming := by
  rw [State.modeInForce, State.resetFlag, flagReset]
  cases s.flags.getLsbD 0
  case false => simp
  case true => simp

/-- The notice timers once RESET is clear, field by field: streaming keeps them all, event mode only what it holds (R159). -/
theorem leaveStreaming_eq (s : State) :
    (if s.noticeMode = .event then { s with
        reportExpiry := if s.maskedFlagSet then s.reportExpiry else none, holdoffExpiry := none, noticePending := false }
      else s)
      = { s with
          reportExpiry := if s.noticeMode = .event ∧ s.flags &&& s.eventMask = 0 then none else s.reportExpiry
          holdoffExpiry := if s.noticeMode = .event then none else s.holdoffExpiry
          noticePending := if s.noticeMode = .event then false else s.noticePending } := by
  by_cases hmode : s.noticeMode = .event
  case neg => simp only [hmode, false_and, if_false]
  case pos => simp only [hmode, maskedFlagSet_iff, ite_not, true_and, if_true]

/-! ### ACK_RESET, READ_SUMMARY and READ_FAULTS (R153, R154, R159) -/

theorem acknowledgeReset_of_clear {s : State} (hreset : s.flags.getLsbD 0 = false) : acknowledgeReset s = s :=
  if_neg (Bool.eq_false_iff.mp hreset)

theorem acknowledgeReset_of_set {s : State} (hlive : s.rstLow = false) (hreset : s.flags.getLsbD 0 = true) :
    let f := s.flags &&& 0x7FE
    acknowledgeReset s = { s with
      flags := f, faultInd := if f &&& s.indicatorMask = 0 then !s.indicatorHigh else s.indicatorHigh
      reportExpiry := if s.noticeMode = .event ∧ f &&& s.eventMask = 0 then none else s.reportExpiry
      holdoffExpiry := if s.noticeMode = .event then none else s.holdoffExpiry
      noticePending := if s.noticeMode = .event then false else s.noticePending } := by
  intro f
  have hset : s.resetFlag = true := hreset
  simp only [acknowledgeReset, hset, if_true, leaveStreaming_eq]
  rw [setFlags_high s _ hlive]
  rfl

theorem opAckReset_of_clear {s : State} (hreset : s.flags.getLsbD 0 = false) (ctx : CmdCtx) :
    opAckReset ctx s = (s, .now .ok (flagBytes s.flags)) := by
  rw [opAckReset, acknowledgeReset_of_clear hreset]

theorem opAckReset_of_set {s : State} (hlive : s.rstLow = false) (hreset : s.flags.getLsbD 0 = true) (ctx : CmdCtx) :
    let f := s.flags &&& 0x7FE
    opAckReset ctx s = ({ s with
      flags := f, faultInd := if f &&& s.indicatorMask = 0 then !s.indicatorHigh else s.indicatorHigh
      reportExpiry := if s.noticeMode = .event ∧ f &&& s.eventMask = 0 then none else s.reportExpiry
      holdoffExpiry := if s.noticeMode = .event then none else s.holdoffExpiry
      noticePending := if s.noticeMode = .event then false else s.noticePending }, .now .ok (flagBytes f)) := by
  intro f
  rw [opAckReset, acknowledgeReset_of_set hlive hreset]

theorem opReadSummary_eq {s : State} (hlive : s.rstLow = false) (ctx : CmdCtx) :
    let f := s.flags &&& 1
    opReadSummary ctx s = ({ s with
      flags := f, overflow := 0, faultInd := if f &&& s.indicatorMask = 0 then !s.indicatorHigh else s.indicatorHigh },
      .now .ok (flagBytes s.flags ++ num8 s.faults.length ++ num16 s.overflow)) :=
  congrArg (·, _) (setFlags_high { s with overflow := 0 } (s.flags &&& 1) hlive)

theorem opReadFaults_of_le {n : Byte} (hn : n.toNat ≤ 8) (ctx : CmdCtx) (s : State) :
    opReadFaults n ctx s = ({ s with faults := s.faults.drop n.toNat },
      .now .ok (num8 (s.faults.drop n.toNat).length ++ num8 (min n.toNat s.faults.length)
        ++ ((s.faults.take n.toNat).map FaultRecord.bytes).flatten)) := by
  simp only [opReadFaults, if_neg (Nat.not_lt.mpr hn), List.length_take]

theorem opReadFaults_of_gt {n : Byte} (hn : 8 < n.toNat) (ctx : CmdCtx) (s : State) :
    opReadFaults n ctx s = (s, .now .badArg []) :=
  if_pos hn

/-! ### SET_NOTICE and SET_INDICATOR (R157, R161) -/

theorem modeArg_code (m : NoticeMode) : modeArg (if m = .streaming then 0 else 1) = some m := by
  cases m <;> rfl

theorem modeArg_eq_none {mode : Byte} (hmode : 1 < mode.toNat) : modeArg mode = none := by
  unfold modeArg
  split
  case h_3 => rfl
  all_goals omega

/-- A field of 16 bits is never above the upper bound 65535, so only the lower bound can bring it into its range. -/
theorem clamp_word (lo : Nat) (x : BitVec 16) : clamp lo 65535 x.toNat = max lo x.toNat := by
  rw [clamp, Nat.min_eq_right (Nat.le_of_lt_succ x.isLt)]

theorem setNoticeTo_eq (m : NoticeMode) (interval holdoff : Nat) (mask : BitVec 11) (s : State) :
    setNoticeTo m interval holdoff mask s = { s with
      noticeMode := m, reportInterval := interval, noticeHoldoff := holdoff, eventMask := mask, holdoffExpiry := none
      noticePending := false
      reportExpiry := if s.flags.getLsbD 0 = true ∨ m = .streaming ∨ s.flags &&& mask ≠ 0 then some (s.after interval)
        else none } := by
  simp only [setNoticeTo, modeInForce_eq_streaming_iff, maskedFlagSet_iff, or_assoc]
  rfl

theorem opSetNotice_of_mode {m : NoticeMode} {mode : Byte} (hmode : mode = if m = .streaming then 0 else 1)
    (interval holdoff mask : BitVec 16) (ctx : CmdCtx) (s : State) :
    opSetNotice mode interval holdoff mask ctx s
      = (setNoticeTo m (max 10 interval.toNat) (max 1 holdoff.toNat) (mask.setWidth 11) s,
        .now .ok ([mode] ++ num16 (max 10 interval.toNat) ++ num16 (max 1 holdoff.toNat) ++ bytes16 (mask &&& 0x07FF))) := by
  have hcode : num8 m.code = [mode] := by
    rw [hmode]
    cases m <;> rfl
  have harg : modeArg mode = some m := hmode ▸ modeArg_code m
  simp only [opSetNotice, harg, clamp_word, setNoticeTo_eq, hcode, flagBytes_setWidth]

theorem opSetNotice_of_bad_mode {mode : Byte} (hmode : 1 < mode.toNat) (interval holdoff mask : BitVec 16) (ctx : CmdCtx)
    (s : State) : opSetNotice mode interval holdoff mask ctx s = (s, .now .badArg []) := by
  simp only [opSetNotice, modeArg_eq_none hmode]

theorem opSetIndicator_eq {s : State} (hlive : s.rstLow = false) (mask : BitVec 16) (polarity : Byte) (ctx : CmdCtx) :
    let k : BitVec 11 := mask.setWidth 11
    let high := polarity.getLsbD 0
    opSetIndicator mask polarity ctx s
      = ({ s with indicatorMask := k, indicatorHigh := high, faultInd := if s.flags &&& k = 0 then !high else high },
        .now .ok (bytes16 (mask &&& 0x07FF) ++ bool8 high)) := by
  intro k high
  have hpin : ({ s with indicatorMask := k, indicatorHigh := high } : State).indicatorLevel
      = if s.flags &&& k = 0 then !high else high := indicatorLevel_high _ hlive
  simp only [opSetIndicator, State.driveIndicator, flagBytes_setWidth]
  rw [hpin]

/-- Settles O51: each command by what its operation answers, and the records by their layout. -/
theorem reporterCommands : Obligations.ReporterCommands := by
  unfold Obligations.ReporterCommands
  refine ⟨?reads, ?settings⟩
  case reads =>
    intro h s ht q level
    have hlive : q.rstLow = false := ht.1
    refine ⟨?ackSet, ?ackClear, ?summary, ?faults, ?badCount, faultRecord_layout⟩
    case ackSet =>
      intro hreset f
      exact exec_answered rfl ht (opAckReset_of_set (s := q) hlive hreset _)
    case ackClear =>
      intro hreset
      exact exec_answered rfl ht (opAckReset_of_clear (s := q) hreset _)
    case summary =>
      exact exec_answered rfl ht (opReadSummary_eq (s := q) hlive _)
    case faults =>
      intro n hn left
      exact exec_answered rfl ht (opReadFaults_of_le hn _ q)
    case badCount =>
      intro n hn
      exact exec_answered rfl ht (opReadFaults_of_gt hn _ q)
  case settings =>
    intro h s ht q
    refine ⟨?notice, ?badMode, ?indicator⟩
    case notice =>
      intro m mode interval holdoff mask hmode i o k
      rw [exec_answered rfl ht (opSetNotice_of_mode hmode interval holdoff mask _ q), setNoticeTo_eq]
      rfl
    case badMode =>
      intro mode interval holdoff mask hmode
      exact exec_answered rfl ht (opSetNotice_of_bad_mode hmode interval holdoff mask _ q)
    case indicator =>
      intro mask polarity k high
      exact exec_answered rfl ht (opSetIndicator_eq (s := q) ht.1 mask polarity _)

end Sys2Proof.Proofs
end

section

namespace Sys2Proof.Proofs

open Sys2Proof Sys2Proof.Machine

/-! ### The step and the queue -/

theorem step_of_cons {s : State} {c : Instr} {rest : List Instr} (hqueue : s.pending = c :: rest) :
    step s = exec c { s with pending := rest } := by
  rw [step, hqueue]

theorem step_of_nil {s : State} (hqueue : s.pending = []) : step s = .next s := by
  rw [step, hqueue]

/-- Settles O1: the step by whether a command waits. -/
theorem stepRunsTheFrontCommand : Obligations.StepRunsTheFrontCommand := by
  unfold Obligations.StepRunsTheFrontCommand
  exact ⟨fun c rest s => step_of_cons, fun s => step_of_nil⟩

/-! ### While RST_N is low (R171) -/

/-- Only the carrier signals of the links differ between the two states. -/
def OnlyCarriersMoved (s s' : State) : Prop :=
  { s' with uplinks := s.uplinks, cascadeUp := s.cascadeUp } = s
    ∧ ∀ u : UplinkId, { s'.uplink u with carrier := (s.uplink u).carrier } = s.uplink u

theorem OnlyCarriersMoved.refl (s : State) : OnlyCarriersMoved s s := ⟨rfl, fun _ => rfl⟩

theorem setCarrier_onlyCarriersMoved (s : State) (u : UplinkId) (b : Bool) :
    OnlyCarriersMoved s (s.modUplink u fun x => { x with carrier := b }) := by
  refine ⟨rfl, fun v => ?_⟩
  rw [State.modUplink, State.uplink_setUplink]
  split
  · rename_i h
    rw [h]
  · rfl

theorem exec_live_low {c : Instr} {s : State} {f : State → State} (hrow : exec c s = .next (s.live f)) (hlow : s.rstLow = true) :
    ∃ s', exec c s = .next s' ∧ OnlyCarriersMoved s s' :=
  ⟨s, by rw [hrow, State.live_low hlow], .refl s⟩

theorem exec_carrierLoss_low {s : State} (hlow : s.rstLow = true) (u : UplinkId) :
    exec (.carrierLoss u) s = .next (s.modUplink u fun x => { x with carrier := false }) := by
  change Host.Outcome.next (if (s.uplink u).carrier then _ else _) = _
  rw [State.live_low (s := s.modUplink u fun x => { x with carrier := false }) hlow, ite_self]

theorem exec_carrierReturn_low {s : State} (hlow : s.rstLow = true) (u : UplinkId) :
    exec (.carrierReturn u) s = .next (s.modUplink u fun x => { x with carrier := true }) := by
  change Host.Outcome.next (if (s.uplink u).carrier then _ else _) = _
  rw [State.live_low (s := s.modUplink u fun x => { x with carrier := true }) hlow, ite_self]

theorem exec_cascadeLinkDown_low {s : State} (hlow : s.rstLow = true) :
    exec .cascadeLinkDown s = .next { s with cascadeUp := false } :=
  congrArg Host.Outcome.next (State.live_low (s := { s with cascadeUp := false }) hlow _)

/-- Settles O3: every row but the pin's and the four signals' acts on the live bridge alone. -/
theorem nothingIsTakenInReset : Obligations.NothingIsTakenInReset := by
  unfold Obligations.NothingIsTakenInReset
  intro c s hlow hassert hrelease
  cases c
  case carrierLoss u => exact ⟨_, exec_carrierLoss_low hlow u, setCarrier_onlyCarriersMoved s u false⟩
  case carrierReturn u => exact ⟨_, exec_carrierReturn_low hlow u, setCarrier_onlyCarriersMoved s u true⟩
  case cascadeLinkDown => exact ⟨_, exec_cascadeLinkDown_low hlow, rfl, fun _ => rfl⟩
  case cascadeLinkUp => exact ⟨_, rfl, rfl, fun _ => rfl⟩
  case pinResetAssert => exact absurd rfl hassert
  case pinResetRelease straps => exact absurd rfl (hrelease straps)
  all_goals exact exec_live_low rfl hlow

/-! ### The first that can serve: a search along a list in the order of a measure -/

theorem find?_eq_some_iff_of_pairwise {α : Type} {l : List α} {turn : α → Nat} (hl : l.Pairwise fun a b => turn a < turn b)
    (p : α → Bool) (i : α) : l.find? p = some i ↔ i ∈ l ∧ p i = true ∧ ∀ j ∈ l, p j = true → turn i ≤ turn j := by
  induction l with
  | nil => simp
  | cons a l ih =>
    obtain ⟨ha, hl⟩ := List.pairwise_cons.mp hl
    by_cases hp : p a = true
    · rw [List.find?_cons_of_pos hp, Option.some_inj]
      constructor
      · rintro rfl
        refine ⟨List.mem_cons_self, hp, fun j hj _ => ?_⟩
        rcases List.mem_cons.mp hj with rfl | hj
        · exact le_rfl
        · exact (ha j hj).le
      · rintro ⟨hi, -, hmin⟩
        rcases List.mem_cons.mp hi with rfl | hi
        · rfl
        · exact absurd (hmin a List.mem_cons_self hp) (not_le.mpr (ha i hi))
    · rw [List.find?_cons_of_neg hp, ih hl]
      constructor
      · rintro ⟨hi, hpi, hmin⟩
        refine ⟨List.mem_cons_of_mem a hi, hpi, fun j hj hpj => ?_⟩
        rcases List.mem_cons.mp hj with rfl | hj
        · exact absurd hpj hp
        · exact hmin j hj hpj
      · rintro ⟨hi, hpi, hmin⟩
        rcases List.mem_cons.mp hi with rfl | hi
        · exact absurd hpi hp
        · exact ⟨hi, hpi, fun j hj => hmin j (List.mem_cons_of_mem a hj)⟩

/-! ### The interval table (R7, R8, R10) -/

theorem coveringEntry_eq_some_iff (v : Vector Interval 48) (key : Nat) (i : EntryId) :
    coveringEntry v key = some i ↔ Covers v i key ∧ ∀ j, Covers v j key → i ≤ j := by
  rw [coveringEntry, find?_eq_some_iff_of_pairwise (turn := Fin.val) (List.pairwise_lt_finRange 48)]
  simp only [List.mem_finRange, true_and, true_implies, Bool.and_eq_true, decide_eq_true_eq, Fin.le_def]

theorem separatorOf_eq (v : Vector Interval 48) (i : EntryId) :
    separatorOf v i = if i = 47 then 65536 else v[i].separator.toNat :=
  if_congr (by rw [Fin.ext_iff]; rfl) rfl rfl

theorem separatorOf_of_lt (v : Vector Interval 48) {i : EntryId} (hi : i.val < 47) : separatorOf v i = v[i].separator.toNat :=
  if_neg (by omega)

theorem lowerBound_succ (v : Vector Interval 48) {i j : EntryId} (hj : j.val = i.val + 1) : lowerBound v j = separatorOf v i := by
  have hpos : j.val ≠ 0 := by omega
  have hprev : (⟨j.val - 1, by omega⟩ : EntryId) = i := Fin.ext (by simp [hj])
  rw [lowerBound, if_neg hpos, hprev]

/-- The lowest entry whose separator is above the key covers it: the separator before it is not above the key. -/
theorem exists_covers (v : Vector Interval 48) {key : Nat} (hkey : key < 65536) :
    ∃ i, Covers v i key ∧ ∀ j, Covers v j key → i ≤ j := by
  have hlast : ∃ i : EntryId, key < separatorOf v i := ⟨47, hkey⟩
  obtain ⟨i, hi, hmin⟩ := WellFounded.has_min (wellFounded_lt (α := EntryId)) {i | key < separatorOf v i} hlast
  refine ⟨i, ⟨hi, ?_⟩, fun j hj => not_lt.mp (hmin j hj.1)⟩
  rcases Nat.eq_zero_or_pos i.val with hzero | hpos
  · rw [lowerBound, if_pos hzero]
    exact Nat.zero_le key
  · have hprev := hmin ⟨i.val - 1, by omega⟩
    rw [lowerBound_succ v (i := ⟨i.val - 1, by omega⟩) (by simp; omega)]
    exact not_lt.mp fun h => hprev h (Fin.lt_def.mpr (by simp; omega))

/-- The check of APPLY_TABLES passes when no separator but the fixed one is lower than one before it (R10). -/
theorem separatorsRise_iff (v : Vector Interval 48) :
    separatorsRise v = true ↔ ∀ i j : EntryId, i ≤ j → j.val < 47 → v[i].separator.toNat ≤ v[j].separator.toNat := by
  have hstep : separatorsRise v = true ↔ ∀ (n : Nat) (h : n + 1 < 47),
      v[n].separator.toNat ≤ v[n + 1].separator.toNat := by
    simp only [separatorsRise, List.all_eq_true, List.mem_finRange, true_implies, decide_eq_true_eq]
    constructor
    · intro h n hn
      have hrise := h ⟨n + 1, hn⟩
      rw [lowerBound_succ v (i := ⟨n, by omega⟩) rfl, separatorOf_of_lt v (by simp; omega),
        separatorOf_of_lt v (by simpa using hn)] at hrise
      exact hrise
    · rintro h ⟨n, hn⟩
      cases n with
      | zero => exact Nat.zero_le _
      | succ n =>
        rw [lowerBound_succ v (i := ⟨n, by omega⟩) rfl, separatorOf_of_lt v (by simp; omega),
          separatorOf_of_lt v (by simpa using hn)]
        exact h n hn
  rw [hstep]
  constructor
  · rintro h ⟨m, hm⟩ ⟨n, hn⟩ hle hlt
    simp only [Fin.mk_le_mk] at hle
    induction n, hle using Nat.le_induction with
    | base => exact le_rfl
    | succ n hle ih => exact (ih (by omega) (by simp at hlt ⊢; omega)).trans (h n hlt)
  · intro h n hn
    exact h ⟨n, by omega⟩ ⟨n + 1, by omega⟩ (by simp) hn

/-- In a table that passes the check, a later entry begins where an earlier one has ended. -/
theorem covers_unique {v : Vector Interval 48} (hrise : separatorsRise v = true) {key : Nat} {i j : EntryId} (hi : Covers v i key)
    (hj : Covers v j key) : i = j := by
  have hsep : ∀ i j : EntryId, i < j → separatorOf v i ≤ lowerBound v j := by
    intro i j hij
    have hval : i.val < j.val := hij
    have hprev : j.val = (⟨j.val - 1, by omega⟩ : EntryId).val + 1 := by simp; omega
    rw [lowerBound_succ v hprev, separatorOf_of_lt v (by omega), separatorOf_of_lt v (by simp; omega)]
    exact (separatorsRise_iff v).mp hrise i _ (Fin.le_def.mpr (by simp; omega)) (by simp; omega)
  rcases lt_trichotomy i j with h | h | h
  · exact absurd (hi.1.trans_le (hsep i j h)) (not_lt.mpr hj.2)
  · exact h
  · exact absurd (hj.1.trans_le (hsep j i h)) (not_lt.mpr hi.2)

/-- Settles O16: the covering entry by the search's order, its bounds, and the check. -/
theorem everyKeyIsCovered : Obligations.EveryKeyIsCovered := by
  unfold Obligations.EveryKeyIsCovered
  refine ⟨?covered, ?bounds, separatorsRise_iff⟩
  case covered =>
    intro v key hkey
    obtain ⟨i, hi, hmin⟩ := exists_covers v hkey
    exact ⟨i, (coveringEntry_eq_some_iff v key i).mpr ⟨hi, hmin⟩, hi, fun j hj hc => absurd (hmin j hc) (not_le.mpr hj),
      fun hrise j hj => covers_unique hrise hj hi⟩
  case bounds =>
    intro v i j key
    exact ⟨separatorOf_eq v i, rfl, fun hj => lowerBound_succ v hj, and_comm⟩

/-! ### The replay window (R44) -/

/-- A number that a window never accepts again: one it has accepted, or one below it. -/
def Window.Blocks (w : Window) (n : Nat) : Prop := n ≤ w.high ∧ (n ∈ w.seen ∨ n + 63 < w.high)

theorem judge_eq_accept_iff (w : Window) (n : Nat) :
    w.judge n = .accept ↔ w.high < n ∨ (w.high ≤ n + 63 ∧ n ≤ w.high ∧ n ∉ w.seen) := by
  unfold Window.judge
  split
  · simp [*]
  · split
    · simp; omega
    · split
      · simp [*]
      · simp [*]; omega

theorem judge_eq_tooOld_iff (w : Window) (n : Nat) : w.judge n = .tooOld ↔ n + 63 < w.high := by
  unfold Window.judge
  split
  · simp; omega
  · split
    · simp [*]
    · split
      · simp; omega
      · simp; omega

theorem judge_eq_replay_iff (w : Window) (n : Nat) : w.judge n = .replay ↔ n ≤ w.high ∧ w.high ≤ n + 63 ∧ n ∈ w.seen := by
  unfold Window.judge
  split
  · simp; omega
  · split
    · simp; omega
    · split
      · simp [*]; omega
      · simp [*]

theorem accepted_high (w : Window) (n : Nat) : (w.accepted n).high = max w.high n := by
  unfold Window.accepted
  split
  · rename_i h
    exact (max_eq_right h.le).symm
  · rename_i h
    exact (max_eq_left (not_lt.mp h)).symm

theorem mem_accepted_seen_iff {w : Window} (hw : ∀ m ∈ w.seen, w.high ≤ m + 63) (n m : Nat) :
    m ∈ (w.accepted n).seen ↔ m = n ∨ (m ∈ w.seen ∧ max w.high n ≤ m + 63) := by
  unfold Window.accepted
  split
  · simp only [List.mem_cons, List.mem_filter, decide_eq_true_eq]
    rw [max_eq_right (by omega)]
  · simp only [List.mem_cons]
    rw [max_eq_left (by omega)]
    exact or_congr_right ⟨fun h => ⟨h, hw m h⟩, fun h => h.1⟩

theorem blocks_accepted_self (w : Window) (n : Nat) : Window.Blocks (w.accepted n) n := by
  refine ⟨by rw [accepted_high]; omega, .inl ?_⟩
  unfold Window.accepted
  split <;> simp

theorem blocks_accepted {w : Window} {m : Nat} (h : Window.Blocks w m) (n : Nat) : Window.Blocks (w.accepted n) m := by
  obtain ⟨hle, hgone⟩ := h
  refine ⟨by rw [accepted_high]; omega, ?_⟩
  unfold Window.accepted
  split
  · change (m ∈ n :: w.seen.filter fun m => n ≤ m + 63) ∨ m + 63 < n
    simp only [List.mem_cons, List.mem_filter, decide_eq_true_eq]
    rcases hgone with hseen | hbelow
    · exact (Nat.lt_or_ge (m + 63) n).elim .inr fun h => .inl (.inr ⟨hseen, h⟩)
    · exact .inr (by omega)
  · simp only [List.mem_cons]
    tauto

/-- A run accepts no number twice, and none that its window blocks. -/
theorem accepting_nodup (ns : List Nat) (w : Window) :
    (w.accepting ns).Nodup ∧ ∀ m, Window.Blocks w m → m ∉ w.accepting ns := by
  induction ns generalizing w with
  | nil => exact ⟨List.nodup_nil, fun _ _ => List.not_mem_nil⟩
  | cons n ns ih =>
    unfold Window.accepting
    split
    · rename_i hjudge
      obtain ⟨hnodup, hnew⟩ := ih (w.accepted n)
      refine ⟨List.nodup_cons.mpr ⟨hnew n (blocks_accepted_self w n), hnodup⟩, fun m hm => ?_⟩
      have hne : m ≠ n := by
        rintro rfl
        obtain ⟨hle, hgone⟩ := hm
        rcases (judge_eq_accept_iff w m).mp hjudge with h | ⟨h, -, hseen⟩
        · omega
        · exact hgone.elim hseen (by omega)
      exact fun hmem => (List.mem_cons.mp hmem).elim hne (hnew m (blocks_accepted hm n))
    · exact ih w
    · exact ih w

/-- Settles O17: a run by what its window blocks, and the table by the cases of the judgement. -/
theorem windowAcceptsOnce : Obligations.WindowAcceptsOnce := by
  unfold Obligations.WindowAcceptsOnce
  refine ⟨fun ns => (accepting_nodup ns Window.empty).1, ?table⟩
  case table =>
    intro w n hw _
    have hcovers : ∀ m ∈ w.seen, w.high ≤ m + 63 := fun m hm => (hw.2 m hm).2
    refine ⟨judge_eq_accept_iff w n, ?replay, judge_eq_tooOld_iff w n, fun _ => ⟨accepted_high w n, ?marked, ?others⟩⟩
    case replay =>
      rw [judge_eq_replay_iff]
      exact ⟨fun ⟨hle, _, hseen⟩ => ⟨hle, hseen⟩, fun ⟨hle, hseen⟩ => ⟨hle, hcovers n hseen, hseen⟩⟩
    case marked => exact (mem_accepted_seen_iff hcovers n n).mpr (.inl rfl)
    case others =>
      intro m hm
      rw [mem_accepted_seen_iff hcovers n m, or_iff_right hm]

/-! ### The compensation of a Follower (R128 to R130) -/

theorem compensation_of_follower {s : State} {t : TunnelId} (hrole : (s.tun t).cfg.role = .follower)
    (href : (s.tun (s.tun t).cfg.reference).cfg.role = .reference) :
    compensation s t
      = Int.tdiv ((s.tun (s.tun t).cfg.reference).health.contribution * (s.tun t).cfg.weight.val) 4096 :=
  if_pos ⟨hrole, href⟩

theorem contribution_of_counted {h : Health} (hstate : h.state = .normal ∨ h.state = .suspect) : h.contribution = h.dev :=
  if_pos hstate

theorem contribution_of_not_counted {h : Health} (hstate : ¬ (h.state = .normal ∨ h.state = .suspect)) : h.contribution = 0 :=
  if_neg hstate

theorem natAbs_contribution_le {h : Health} (hdev : -1048560 ≤ h.dev ∧ h.dev ≤ 1048560) : h.contribution.natAbs ≤ 1048560 := by
  unfold Health.contribution
  split
  · omega
  · exact Nat.zero_le _

/-- The largest deviation times the largest weight, divided by 4096 (R130). -/
theorem compensation_bounds {s : State} {t : TunnelId}
    (hdev : -1048560 ≤ (s.tun (s.tun t).cfg.reference).health.dev ∧ (s.tun (s.tun t).cfg.reference).health.dev ≤ 1048560) :
    -2096864 ≤ compensation s t ∧ compensation s t ≤ 2096864 := by
  unfold compensation
  simp only []
  split
  · have hweight : (s.tun t).cfg.weight.val ≤ 8191 := by omega
    have hproduct := Nat.mul_le_mul (natAbs_contribution_le hdev) hweight
    have habs : (Int.tdiv ((s.tun (s.tun t).cfg.reference).health.contribution * (s.tun t).cfg.weight.val) 4096).natAbs
        ≤ 2096864 := by
      rw [Int.natAbs_tdiv, Int.natAbs_mul, Int.natAbs_natCast]
      exact (Nat.div_le_div_right hproduct).trans (by norm_num)
    omega
  · omega

/-- Settles O20: the term by the role of its Reference and the state of that one's health. -/
theorem compensationTerm : Obligations.CompensationTerm := by
  unfold Obligations.CompensationTerm
  intro s t c r
  constructor
  · rintro ⟨hrole, href, hstate⟩
    refine ⟨?_, fun hlow hhigh => compensation_bounds ⟨hlow, hhigh⟩⟩
    rw [compensation_of_follower hrole href, contribution_of_counted hstate]
  · intro hnone
    by_cases hroles : c.role = .follower ∧ r.cfg.role = .reference
    · have hstate : ¬ (r.health.state = .normal ∨ r.health.state = .suspect) := fun h => hnone ⟨hroles.1, hroles.2, h⟩
      rw [compensation_of_follower hroles.1 hroles.2, contribution_of_not_counted hstate, zero_mul, Int.zero_tdiv]
    · exact if_neg hroles

end Sys2Proof.Proofs
end

section

namespace Sys2Proof.Proofs

open Sys2Proof Sys2Proof.Machine

/-! ### The generator's runs as linear maps over the bits of its state (R90) -/

theorem lfsrRun_zero (x : BitVec 16) : lfsrRun 0 x = x := rfl

theorem lfsrRun_succ (k : Nat) (x : BitVec 16) : lfsrRun (k + 1) x = lfsrStep (lfsrRun k x) := rfl

theorem lfsrRun_eq_iterate (k : Nat) (x : BitVec 16) : lfsrRun k x = lfsrStep^[k] x := by
  induction k with
  | zero => rfl
  | succ k ih => rw [lfsrRun_succ, ih, Function.iterate_succ_apply']

theorem lfsrRun_add (m n : Nat) (x : BitVec 16) : lfsrRun (m + n) x = lfsrRun m (lfsrRun n x) := by
  simp only [lfsrRun_eq_iterate, Function.iterate_add_apply]

theorem lfsrStep_eq (x : BitVec 16) : lfsrStep x = (x >>> 1) ^^^ (if x.getLsbD 0 then 0xB400 else 0) := by
  unfold lfsrStep
  split
  · rfl
  · exact (BitVec.xor_zero).symm

theorem lfsrStep_xor (x y : BitVec 16) : lfsrStep (x ^^^ y) = lfsrStep x ^^^ lfsrStep y := by
  have htap : ∀ p q : Bool, (if (p ^^ q) = true then (0xB400 : BitVec 16) else 0)
      = (if p = true then 0xB400 else 0) ^^^ (if q = true then 0xB400 else 0) := by decide
  simp only [lfsrStep_eq, BitVec.ushiftRight_xor_distrib, BitVec.getLsbD_xor, htap]
  ac_rfl

theorem lfsrRun_xor (k : Nat) (x y : BitVec 16) : lfsrRun k (x ^^^ y) = lfsrRun k x ^^^ lfsrRun k y := by
  induction k with
  | zero => rfl
  | succ k ih => rw [lfsrRun_succ, ih, lfsrStep_xor, lfsrRun_succ, lfsrRun_succ]

theorem lfsrRun_zero_state (k : Nat) : lfsrRun k 0 = 0 := by
  induction k with
  | zero => rfl
  | succ k ih => rw [lfsrRun_succ, ih]; rfl

/-- A step loses nothing: what it shifts out stands in the top bit of what it leaves. -/
theorem lfsrStep_ne_zero {x : BitVec 16} (hx : x ≠ 0) : lfsrStep x ≠ 0 := by
  intro hstep
  have htop : x.getLsbD 0 = false := by
    have hbit : (lfsrStep x).getLsbD 15 = x.getLsbD 0 := by
      rw [lfsrStep_eq]
      cases x.getLsbD 0 <;> simp
    rw [← hbit, hstep]
    rfl
  rw [lfsrStep_eq, htop] at hstep
  have hshift : x.toNat / 2 = 0 := by
    simpa [Nat.shiftRight_eq_div_pow] using congrArg BitVec.toNat hstep
  have heven : x.toNat % 2 = 0 := by
    simpa [BitVec.getLsbD, Nat.testBit_zero] using htop
  exact hx (BitVec.eq_of_toNat_eq (by rw [BitVec.ofNat_eq_ofNat, BitVec.toNat_zero]; omega))

theorem lfsrRun_ne_zero {x : BitVec 16} (hx : x ≠ 0) (k : Nat) : lfsrRun k x ≠ 0 := by
  induction k with
  | zero => exact hx
  | succ k ih => exact lfsrStep_ne_zero ih

/-- The linear map that takes bit `i` to entry `i` of the list. -/
def applyCols : List (BitVec 16) → BitVec 16 → BitVec 16
  | [], _ => 0
  | c :: cols, x => (if x.getLsbD 0 then c else 0) ^^^ applyCols cols (x >>> 1)

/-- The entries of a map that is linear over the bits of its argument. -/
def colsOf (f : BitVec 16 → BitVec 16) : List (BitVec 16) := (List.range 16).map fun i => f (BitVec.twoPow 16 i)

/-- The entries of the run of `n` steps, by repeated squaring. -/
def runCols : Nat → Nat → List (BitVec 16)
  | 0, _ => colsOf id
  | fuel + 1, n =>
    let half := runCols fuel (n / 2)
    let even := half.map (applyCols half)
    if n % 2 = 1 then even.map lfsrStep else even

/-- An additive map goes through the entries. -/
theorem map_applyCols {f : BitVec 16 → BitVec 16} (hzero : f 0 = 0) (hadd : ∀ x y, f (x ^^^ y) = f x ^^^ f y)
    (cols : List (BitVec 16)) (x : BitVec 16) : f (applyCols cols x) = applyCols (cols.map f) x := by
  induction cols generalizing x with
  | nil => exact hzero
  | cons c cols ih =>
    rw [applyCols, hadd, ih, List.map_cons, applyCols, apply_ite f, hzero]

theorem applyCols_id (x : BitVec 16) : applyCols (colsOf id) x = x := by
  have hbit : ∀ (b : Bool) (v : BitVec 16) (i : Nat) (hi : i < 16), (if b = true then v else 0#16)[i] = (b && v[i]) := by
    intro b v i hi
    cases b <;> simp
  ext i hi
  interval_cases i <;> simp [colsOf, List.range_succ, applyCols, hbit]

theorem lfsrRun_eq_applyCols (fuel n : Nat) (hfuel : n < 2 ^ fuel) (x : BitVec 16) :
    lfsrRun n x = applyCols (runCols fuel n) x := by
  induction fuel generalizing n x with
  | zero =>
    obtain rfl : n = 0 := by simpa using hfuel
    exact (applyCols_id x).symm
  | succ fuel ih =>
    have hhalf : ∀ x, lfsrRun (n / 2) x = applyCols (runCols fuel (n / 2)) x := fun x => ih (n / 2) (by omega) x
    have heven : lfsrRun (n / 2 + n / 2) x
        = applyCols ((runCols fuel (n / 2)).map (applyCols (runCols fuel (n / 2)))) x := by
      rw [lfsrRun_add, hhalf x, map_applyCols (lfsrRun_zero_state _) (lfsrRun_xor _)]
      exact congrArg (fun f => applyCols ((runCols fuel (n / 2)).map f) x) (funext hhalf)
    simp only [runCols]
    split
    · have hn : n = n / 2 + n / 2 + 1 := by omega
      rw [← map_applyCols rfl lfsrStep_xor, ← heven, ← lfsrRun_succ, ← hn]
    · have hn : n = n / 2 + n / 2 := by omega
      rw [← heven, ← hn]

/-! ### The period (R90) -/

theorem lfsrRun_period (x : BitVec 16) : lfsrRun 65535 x = x := by
  have hcols : runCols 16 65535 = colsOf id := by decide +kernel
  rw [lfsrRun_eq_applyCols 16 65535 (by norm_num), hcols, applyCols_id]

theorem applyCols_zipWith_xor (cols cols' : List (BitVec 16)) (hlength : cols.length = cols'.length) (x : BitVec 16) :
    applyCols (List.zipWith (· ^^^ ·) cols cols') x = applyCols cols x ^^^ applyCols cols' x := by
  induction cols generalizing cols' x with
  | nil =>
    obtain rfl : cols' = [] := List.length_eq_zero_iff.mp hlength.symm
    exact (BitVec.xor_self (x := (0 : BitVec 16))).symm
  | cons c cols ih =>
    obtain ⟨c', cols', rfl⟩ : ∃ a l, cols' = a :: l := List.exists_cons_of_length_eq_add_one hlength.symm
    have hentry : ∀ b : Bool, (if b = true then c ^^^ c' else 0)
        = (if b = true then c else 0) ^^^ (if b = true then c' else 0) := by
      intro b
      cases b <;> simp
    simp only [List.zipWith_cons_cons, applyCols, hentry, ih cols' (by simpa using hlength)]
    ac_rfl

/-- A run of `k` steps moves every state other than 0, when what it adds to the state is itself a run, of `j` steps. -/
theorem lfsrRun_ne_self {k j : Nat} (hk : k < 2 ^ 16) (hj : j < 2 ^ 16)
    (hcols : List.zipWith (· ^^^ ·) (runCols 16 k) (colsOf id) = runCols 16 j)
    (hlength : (runCols 16 k).length = (colsOf id).length) {x : BitVec 16} (hx : x ≠ 0) : lfsrRun k x ≠ x := by
  intro hself
  have hsum : lfsrRun j x = lfsrRun k x ^^^ x := by
    rw [lfsrRun_eq_applyCols 16 j hj, ← hcols, applyCols_zipWith_xor _ _ hlength, applyCols_id,
      ← lfsrRun_eq_applyCols 16 k hk]
  apply lfsrRun_ne_zero hx j
  rw [hsum, hself]
  exact BitVec.xor_self

/-- No state other than 0 returns after 65535 steps divided by a prime factor: what each such run adds to the state is itself a
run, whose length a discrete logarithm gives. -/
theorem lfsrRun_div_ne_self {x : BitVec 16} (hx : x ≠ 0) {p : Nat} (hp : p.Prime) (hdvd : p ∣ 65535) :
    lfsrRun (65535 / p) x ≠ x := by
  have hfactors : p = 3 ∨ p = 5 ∨ p = 17 ∨ p = 257 := by
    have hsplit : p ∣ 3 ∨ p ∣ 5 ∨ p ∣ 17 ∨ p ∣ 257 := by
      rw [(by norm_num : 65535 = 3 * (5 * (17 * 257))), hp.dvd_mul, hp.dvd_mul, hp.dvd_mul] at hdvd
      exact hdvd
    exact hsplit.imp (Nat.prime_dvd_prime_iff_eq hp (by norm_num)).mp (.imp (Nat.prime_dvd_prime_iff_eq hp (by norm_num)).mp
      (.imp (Nat.prime_dvd_prime_iff_eq hp (by norm_num)).mp (Nat.prime_dvd_prime_iff_eq hp (by norm_num)).mp))
  obtain rfl | rfl | rfl | rfl := hfactors
  · exact lfsrRun_ne_self (j := 43690) (by norm_num) (by norm_num) (by decide +kernel) (by decide +kernel) hx
  · exact lfsrRun_ne_self (j := 61166) (by norm_num) (by norm_num) (by decide +kernel) (by decide +kernel) hx
  · exact lfsrRun_ne_self (j := 8481) (by norm_num) (by norm_num) (by decide +kernel) (by decide +kernel) hx
  · exact lfsrRun_ne_self (j := 12849) (by norm_num) (by norm_num) (by decide +kernel) (by decide +kernel) hx

theorem lfsrStep_minimalPeriod {x : BitVec 16} (hx : x ≠ 0) : Function.minimalPeriod lfsrStep x = 65535 := by
  have hperiod : Function.IsPeriodicPt lfsrStep 65535 x := (lfsrRun_eq_iterate 65535 x).symm.trans (lfsrRun_period x)
  obtain ⟨q, hq⟩ := hperiod.minimalPeriod_dvd
  by_contra hshort
  have hproper : q ≠ 1 := fun h => hshort (by rw [h, mul_one] at hq; exact hq.symm)
  obtain ⟨p, hp, r, rfl⟩ := Nat.exists_prime_and_dvd hproper
  have hquotient : 65535 / p = Function.minimalPeriod lfsrStep x * r :=
    Nat.div_eq_of_eq_mul_right hp.pos (by rw [hq]; ring)
  apply lfsrRun_div_ne_self hx hp ⟨Function.minimalPeriod lfsrStep x * r, by rw [hq]; ring⟩
  rw [lfsrRun_eq_iterate, hquotient]
  exact (Function.isPeriodicPt_minimalPeriod lfsrStep x).mul_const r

/-- The orbit of a state other than 0 has as many members as there are such states, so it holds each of them. -/
theorem exists_lfsrRun_eq {x y : BitVec 16} (hx : x ≠ 0) (hy : y ≠ 0) : ∃ k, k < 65535 ∧ lfsrRun k x = y := by
  have hinj : Set.InjOn (fun k => lfsrRun k x) (Finset.range 65535 : Set Nat) := by
    have horbit := Function.iterate_injOn_Iio_minimalPeriod (f := lfsrStep) (x := x)
    rw [lfsrStep_minimalPeriod hx] at horbit
    simpa only [lfsrRun_eq_iterate, Finset.coe_range] using horbit
  have hcard : (Finset.univ.erase (0 : BitVec 16)).card ≤ ((Finset.range 65535).image fun k => lfsrRun k x).card := by
    rw [Finset.card_image_of_injOn hinj, Finset.card_erase_of_mem (Finset.mem_univ _), Finset.card_univ,
      Finset.card_range, Fintype.card_congr BitVec.equivFin.toEquiv, Fintype.card_fin]
    norm_num
  have hsub : ((Finset.range 65535).image fun k => lfsrRun k x) ⊆ Finset.univ.erase (0 : BitVec 16) := by
    intro z hz
    obtain ⟨k, -, rfl⟩ := Finset.mem_image.mp hz
    exact Finset.mem_erase.mpr ⟨lfsrRun_ne_zero hx k, Finset.mem_univ _⟩
  have hmem : y ∈ (Finset.range 65535).image fun k => lfsrRun k x := by
    rw [Finset.eq_of_subset_of_card_le hsub hcard]
    exact Finset.mem_erase.mpr ⟨hy, Finset.mem_univ _⟩
  obtain ⟨k, hk, hrun⟩ := Finset.mem_image.mp hmem
  exact ⟨k, Finset.mem_range.mp hk, hrun⟩

/-- Settles O19: the step bit for bit, and the period through the prime factors of 65535. -/
theorem generatorHasFullPeriod : Obligations.GeneratorHasFullPeriod := by
  unfold Obligations.GeneratorHasFullPeriod
  refine ⟨lfsrStep_eq, fun x hx => ⟨fun y hy => exists_lfsrRun_eq hx hy, lfsrRun_period x, ?early⟩⟩
  case early =>
    intro k hpos hk hself
    have hperiod : Function.IsPeriodicPt lfsrStep k x := (lfsrRun_eq_iterate k x).symm.trans hself
    have hle := hperiod.minimalPeriod_le hpos
    rw [lfsrStep_minimalPeriod hx] at hle
    omega

end Sys2Proof.Proofs
end

section

namespace Sys2Proof.Proofs

open Sys2Proof Sys2Proof.Machine

/-! ### Fields and their bytes determine one another -/

theorem append_inj {m n : Nat} {x x' : BitVec m} {y y' : BitVec n} (h : x ++ y = x' ++ y') : x = x' ∧ y = y' := by
  constructor
  · simpa only [BitVec.extractLsb'_append_eq_left] using congrArg (BitVec.extractLsb' n m) h
  · simpa only [BitVec.extractLsb'_append_eq_right] using congrArg (BitVec.extractLsb' 0 n) h

theorem bytes16_append (a b : Byte) : bytes16 (a ++ b) = [a, b] := by
  rw [bytes16, BitVec.extractLsb'_append_eq_left, BitVec.extractLsb'_append_eq_right]

/-- A field of a field is a field. -/
theorem extractLsb'_extractLsb' {w : Nat} (x : BitVec w) {a b m n : Nat} (h : a + n ≤ m) :
    (x.extractLsb' b m).extractLsb' a n = x.extractLsb' (b + a) n := by
  ext i hi
  have hin : a + i < m := by omega
  simp [hin, Nat.add_assoc]

theorem bytes32_eq (x : BitVec 32) : bytes32 x = bytes16 (x.extractLsb' 16 16) ++ bytes16 (x.extractLsb' 0 16) := by
  simp only [bytes16, extractLsb'_extractLsb' x (by norm_num : 8 + 8 ≤ 16), extractLsb'_extractLsb' x (by norm_num : 0 + 8 ≤ 16)]
  rfl

theorem bytes32_append (a b c d : Byte) : bytes32 ((a ++ b) ++ (c ++ d)) = [a, b, c, d] := by
  rw [bytes32_eq, BitVec.extractLsb'_append_eq_left, BitVec.extractLsb'_append_eq_right, bytes16_append, bytes16_append]
  rfl

theorem be48At_bytes48 (x : BitVec 48) : be48At (bytes48 x) 0 = x :=
  calc be48At (bytes48 x) 0
    _ = ((x.extractLsb' 40 8 ++ x.extractLsb' 32 8) ++ (x.extractLsb' 24 8 ++ x.extractLsb' 16 8))
          ++ (x.extractLsb' 8 8 ++ x.extractLsb' 0 8) := rfl
    _ = (x.extractLsb' 32 16 ++ x.extractLsb' 16 16) ++ x.extractLsb' 0 16 :=
        congrArg₂ (· ++ ·) (congrArg₂ (· ++ ·) (BitVec.extractLsb'_append_extractLsb'_eq_extractLsb' (start₁ := 32) rfl)
          (BitVec.extractLsb'_append_extractLsb'_eq_extractLsb' (start₁ := 16) rfl))
          (BitVec.extractLsb'_append_extractLsb'_eq_extractLsb' (start₁ := 0) rfl)
    _ = x.extractLsb' 16 32 ++ x.extractLsb' 0 16 :=
        congrArg (· ++ _) (BitVec.extractLsb'_append_extractLsb'_eq_extractLsb' (start₁ := 16) rfl)
    _ = x := BitVec.extractLsb'_append_extractLsb' (w := 32) (len := 16)

/-! ### A field read at its place: over the bytes before it, then the field itself -/

@[simp] theorem byteAt_cons_zero (b : Byte) (bs : List Byte) : byteAt (b :: bs) 0 = b := rfl
@[simp] theorem byteAt_cons_succ (b : Byte) (bs : List Byte) (i : Nat) : byteAt (b :: bs) (i + 1) = byteAt bs i := rfl
@[simp] theorem be16At_cons_succ (b : Byte) (bs : List Byte) (i : Nat) : be16At (b :: bs) (i + 1) = be16At bs i := rfl
@[simp] theorem be32At_cons_succ (b : Byte) (bs : List Byte) (i : Nat) : be32At (b :: bs) (i + 1) = be32At bs i := rfl
@[simp] theorem be48At_cons_succ (b : Byte) (bs : List Byte) (i : Nat) : be48At (b :: bs) (i + 1) = be48At bs i := rfl

@[simp] theorem be16At_field (x : BitVec 16) (bs : List Byte) :
    be16At (x.extractLsb' 8 8 :: x.extractLsb' 0 8 :: bs) 0 = x := be16At_bytes16 x

@[simp] theorem be32At_field (x : BitVec 32) (bs : List Byte) :
    be32At (x.extractLsb' 24 8 :: x.extractLsb' 16 8 :: x.extractLsb' 8 8 :: x.extractLsb' 0 8 :: bs) 0 = x :=
  be32At_bytes32 x

@[simp] theorem be48At_field (x : BitVec 48) (bs : List Byte) :
    be48At (x.extractLsb' 40 8 :: x.extractLsb' 32 8 :: x.extractLsb' 24 8 :: x.extractLsb' 16 8 :: x.extractLsb' 8 8
      :: x.extractLsb' 0 8 :: bs) 0 = x := be48At_bytes48 x

/-! ### Bytes as one number, the first most significant -/

/-- The number that bytes stand for, read after `a`. -/
def beFold (a : Nat) (bs : List Byte) : Nat := bs.foldl (fun a b => a * 256 + b.toNat) a

theorem beNatAt_eq (bs : List Byte) (i n : Nat) : beNatAt bs i n = beFold 0 ((bs.drop i).take n) := rfl

theorem beFold_append (a : Nat) (bs bs' : List Byte) : beFold a (bs ++ bs') = beFold (beFold a bs) bs' :=
  List.foldl_append

theorem beFold_bytes16 (a : Nat) (x : BitVec 16) : beFold a (bytes16 x) = a * 2 ^ 16 + x.toNat := by
  simp only [beFold, bytes16, List.foldl_cons, List.foldl_nil, BitVec.extractLsb'_toNat, Nat.shiftRight_eq_div_pow]
  omega

theorem beFold_bytes32 (a : Nat) (x : BitVec 32) : beFold a (bytes32 x) = a * 2 ^ 32 + x.toNat := by
  simp only [beFold, bytes32, List.foldl_cons, List.foldl_nil, BitVec.extractLsb'_toNat, Nat.shiftRight_eq_div_pow]
  omega

theorem beFold_bytes128 (a : Nat) (x : BitVec 128) : beFold a (bytes128 x) = a * 2 ^ 128 + x.toNat := by
  simp only [bytes128, beFold_append, beFold_bytes32, BitVec.extractLsb'_toNat, Nat.shiftRight_eq_div_pow]
  omega

/-! ### The tunnel header and the frames the bridge sends (R37 to R39, R174, R175) -/

theorem tunnelHeader_ofBytes_bytes (h : TunnelHeader) : TunnelHeader.ofBytes h.bytes = some h := by
  have htunnel : be16At h.bytes 2 = h.tunnel := be16At_bytes16 _
  have hsequence : be32At h.bytes 4 = h.sequence := be32At_bytes32 _
  have hlength : be16At h.bytes 8 = h.length := be16At_bytes16 _
  have hepoch : be16At h.bytes 10 = h.epoch := be16At_bytes16 _
  have hwhole : h.bytes.length = 12 := rfl
  simp only [TunnelHeader.ofBytes, hwhole, if_true, htunnel, hsequence, hlength, hepoch]
  rfl

theorem tunnelHeader_bytes_of_ofBytes {bs : List Byte} {h : TunnelHeader} (hread : TunnelHeader.ofBytes bs = some h) :
    h.bytes = bs := by
  rw [TunnelHeader.ofBytes] at hread
  split at hread
  case isFalse => cases hread
  case isTrue hlen =>
    match bs, hlen with
    | [b0, b1, b2, b3, b4, b5, b6, b7, b8, b9, b10, b11], _ =>
      obtain rfl := Option.some.inj hread
      exact congrArg ([b0, b1] ++ ·) (congrArg₂ (· ++ ·) (congrArg₂ (· ++ ·) (congrArg₂ (· ++ ·) (bytes16_append b2 b3)
        (bytes32_append b4 b5 b6 b7)) (bytes16_append b8 b9)) (bytes16_append b10 b11))

theorem outerFrame_tail (dst src : Mac) (kind : BitVec 4) (generation : BitVec 8) (t : TunnelId) (sequence : BitVec 32)
    (epoch : BitVec 16) (key : BitVec 256) (salt : BitVec 32) (body : List Byte) :
    (outerFrame dst src kind generation t sequence epoch key salt body).tail = max (body.length + 16) 34 := by
  simp only [outerFrame, CarrierFrame.tail, Option.map_some, Option.getD_some, Sealed.wireLength, List.length_replicate]
  omega

theorem beNatAt_offerBody (target : BitVec 8) (nonce : BitVec 128) :
    BitVec.ofNat 128 (beNatAt (offerBody target nonce) 2 16) = nonce := by
  have hbytes : ((offerBody target nonce).drop 2).take 16 = bytes128 nonce := rfl
  rw [beNatAt_eq, hbytes, beFold_bytes128, Nat.zero_mul, Nat.zero_add, BitVec.ofNat_toNat, BitVec.setWidth_eq]

/-- Settles O21: the header's fields byte by byte, and both frame builders by their definition. -/
theorem tunnelFrameLayout : Obligations.TunnelFrameLayout := by
  unfold Obligations.TunnelFrameLayout
  refine ⟨⟨fun h => ⟨rfl, tunnelHeader_ofBytes_bytes h⟩, fun bs h => tunnelHeader_bytes_of_ofBytes⟩, ?current, ?offer⟩
  case current =>
    intro s t c kind body f
    exact ⟨rfl, rfl, rfl, rfl, tunnelHeader_ofBytes_bytes _, outerFrame_tail .., _, rfl, rfl, rfl, rfl, rfl⟩
  case offer =>
    intro s t g target nonce f
    exact ⟨tunnelHeader_ofBytes_bytes _, rfl, rfl, rfl, rfl, rfl, _, rfl, rfl, rfl, rfl, rfl, rfl, rfl,
      beNatAt_offerBody target nonce⟩

/-! ### Nonces and opening (R37, R43) -/

theorem frameNonce_inj {salt salt' : BitVec 32} {tun tun' : BitVec 16} {gen gen' : BitVec 8} {seq seq' : BitVec 32}
    (h : frameNonce salt tun gen seq = frameNonce salt' tun' gen' seq') :
    salt = salt' ∧ tun = tun' ∧ gen = gen' ∧ seq = seq' := by
  obtain ⟨h1, hseq⟩ := append_inj h
  obtain ⟨h2, -⟩ := append_inj h1
  obtain ⟨h3, hgen⟩ := append_inj h2
  obtain ⟨hsalt, htun⟩ := append_inj h3
  exact ⟨hsalt, htun, hgen, hseq⟩

theorem inboundSalt_ne (salt : BitVec 32) : inboundSalt salt ≠ salt := by
  intro h
  have htop := congrArg (BitVec.getLsbD · 31) h
  simp [inboundSalt] at htop

theorem opens_eq_some_iff (k : KeyContext) (h : TunnelHeader) (f : CarrierFrame) (body : List Byte) :
    k.opens h f = some body ↔ ∃ c, f.cipher = some c ∧ c.key = k.key
      ∧ c.nonce = frameNonce (inboundSalt k.salt) h.tunnel h.generation h.sequence ∧ c.aad = h.bytes
      ∧ c.body.length = h.length.toNat ∧ c.body = body := by
  unfold KeyContext.opens
  split
  · simp [*]
  · rename_i c hc
    simp only [hc, Option.some.injEq, exists_eq_left']
    split
    · simp_all
    · simp_all

theorem opens_eq_none {k : KeyContext} {h : TunnelHeader} {f : CarrierFrame} {c : Sealed} (hcipher : f.cipher = some c)
    (hother : ¬ (c.key = k.key ∧ c.nonce = frameNonce (inboundSalt k.salt) h.tunnel h.generation h.sequence ∧ c.aad = h.bytes)) :
    k.opens h f = none := by
  refine Option.eq_none_iff_forall_ne_some.mpr fun body hopen => ?_
  obtain ⟨d, hd, hkey, hnonce, haad, -⟩ := (opens_eq_some_iff k h f body).mp hopen
  rw [hcipher, Option.some_inj] at hd
  exact hother (hd ▸ ⟨hkey, hnonce, haad⟩)

/-- Settles O24: nonces by their salts and fields, opening by the three conditions of R43. -/
theorem framesOpenUnderTheirContextAlone : Obligations.FramesOpenUnderTheirContextAlone := by
  unfold Obligations.FramesOpenUnderTheirContextAlone
  refine ⟨?nonces, ?shop, ?bridge⟩
  case nonces =>
    intro salt tun tun' gen gen' seq seq'
    exact ⟨fun h => inboundSalt_ne salt (frameNonce_inj h).1, fun h => (frameNonce_inj h).2⟩
  case shop =>
    intro k h f body hlength hcipher
    refine ⟨(opens_eq_some_iff k h f body).mpr ⟨_, hcipher, rfl, rfl, rfl, hlength, rfl⟩, fun k' hkey => ?_, fun h' hne => ?_⟩
    · exact opens_eq_none hcipher fun hall => hkey hall.1.symm
    · refine opens_eq_none hcipher fun hall => hne ?_
      have hread := congrArg TunnelHeader.ofBytes hall.2.2
      rw [tunnelHeader_ofBytes_bytes, tunnelHeader_ofBytes_bytes, Option.some_inj] at hread
      exact hread.symm
  case bridge =>
    intro s t c kind body h
    exact opens_eq_none rfl fun hall => inboundSalt_ne c.ctx.salt (frameNonce_inj hall.2.1).1.symm

end Sys2Proof.Proofs
end

section

namespace Sys2Proof.Proofs

open Sys2Proof Sys2Proof.Machine

/-! ### A vector's entries in the order of their numbers -/

theorem vector_toList_eq_map {α : Type} {n : Nat} (v : Vector α n) : v.toList = (List.finRange n).map fun i => v[i] := by
  refine List.ext_getElem (by simp) fun i h _ => ?_
  simp

theorem vector_filter_length {α : Type} {n : Nat} (v : Vector α n) (p : α → Bool) :
    (v.toList.filter p).length = ((List.finRange n).filter fun i => p v[i]).length := by
  rw [vector_toList_eq_map, List.filter_map, List.length_map]
  rfl

/-! ### The frame buffer and the office transmit queue (R53, R98) -/

theorem freeSlots_eq (s : State) : s.freeSlots = 4096 - (((List.finRange 1024).map fun t => (s.tun t).egress.length).sum
    + s.officeQueue.length + (if s.officeTx = none then 0 else 1)
    + ((List.finRange 4).filter fun u => decide ((s.uplink u).tx ≠ none)).length) := by
  have htx : s.officeTx.toList.length = if s.officeTx = none then 0 else 1 := by
    cases s.officeTx <;> rfl
  have hup : ∀ u : Uplink, u.tx.isSome = decide (u.tx ≠ none) := by
    intro u
    cases u.tx <;> rfl
  rw [State.freeSlots, State.usedSlots, vector_filter_length, vector_toList_eq_map s.tunnels, List.map_map, htx]
  simp only [hup]
  rfl

theorem officeRoom_eq_true_iff (s : State) (reserve : Nat) :
    s.officeRoom reserve = true ↔ s.officeQueue.length < 512 ∧ reserve < s.freeSlots := by
  rw [State.officeRoom, Bool.and_eq_true, decide_eq_true_eq, decide_eq_true_eq]

theorem not_officeRoom_iff (s : State) (reserve : Nat) :
    ¬ s.officeRoom reserve = true ↔ 512 ≤ s.officeQueue.length ∨ s.freeSlots ≤ reserve := by
  rw [officeRoom_eq_true_iff]
  omega

theorem offerReserved_of_room {s : State} (k : OfficeKind) (f : EthFrame) (h : s.officeRoom 0 = true) :
    offerReserved k f s = s.officePush k f := if_pos h

theorem offerReserved_of_full {s : State} (k : OfficeKind) (f : EthFrame) (h : ¬ s.officeRoom 0 = true) :
    offerReserved k f s = officeOverrun s := if_neg h

theorem offerClear_of_room {s : State} (f : EthFrame) (h : s.officeRoom 64 = true) :
    offerClear f s = s.officePush .clear f := if_pos h

theorem offerClear_of_full {s : State} (f : EthFrame) (h : ¬ s.officeRoom 64 = true) :
    offerClear f s = officeOverrun s := if_neg h

/-- Where the fields of a reply stand (R164, R176). -/
theorem replyFrame_layout (dst : Mac) (label : BitVec 16) (code : Byte) (st : Status) (tag : BitVec 16) (payload : List Byte) :
    let bs := (replyFrame dst label code st tag payload).bytes
    be48At bs 0 = dst ∧ be48At bs 6 = (0x024C5800 : BitVec 32) ++ label ∧ be16At bs 12 = 0x88B5 ∧ be16At bs 14 = label
      ∧ byteAt bs 16 = code ||| 0x80 ∧ byteAt bs 17 = st.code ∧ be16At bs 18 = tag
      ∧ be16At bs 20 = BitVec.ofNat 16 payload.length ∧ bs.drop 22 = payload := by
  simp [replyFrame, bytes48, bytes16, num16, bridgeAddress]
  rfl

/-- Settles O26: admission by the room there is, the slots entry by entry, and the layout of a reply. -/
theorem officeQueueAdmits : Obligations.OfficeQueueAdmits := by
  unfold Obligations.OfficeQueueAdmits
  intro s k f
  refine ⟨?reserved, ?clear, ?fullReserved, ?fullClear, rfl, freeSlots_eq s, ?reply⟩
  case reserved =>
    intro hqueue hfree
    exact offerReserved_of_room k f ((officeRoom_eq_true_iff s 0).mpr ⟨hqueue, hfree⟩)
  case clear =>
    intro hqueue hfree
    exact offerClear_of_room f ((officeRoom_eq_true_iff s 64).mpr ⟨hqueue, hfree⟩)
  case fullReserved =>
    intro hfull
    exact offerReserved_of_full k f ((not_officeRoom_iff s 0).mpr (hfull.imp_right Nat.le_zero.mpr))
  case fullClear =>
    intro hfull
    exact offerClear_of_full f ((not_officeRoom_iff s 64).mpr hfull)
  case reply =>
    intro h code st payload reply bs
    refine ⟨rfl, replyFrame_layout h.source s.label code st h.tag payload, ?_⟩
    cases st <;> rfl

/-! ### Forwarding to the cascade (R163) -/

/-- Where a forwarded frame goes: nowhere while the link is down, onto the list while it has room, else into CASCADE_DROP. -/
theorem cascadeForward_state (f : EthFrame) (s : State) : (cascadeForward f s).1 =
    if s.cascadeUp = false then s
    else if s.cascadeList.length < 16 then { s with cascadeList := s.cascadeList ++ [{ frame := f, awaited := false }] }
    else { s with counters := { s.counters with cascadeDrop := satAdd s.counters.cascadeDrop 1 } } := by
  by_cases hup : s.cascadeUp = true
  · rw [cascadeForward, if_pos hup, if_neg (show ¬ s.cascadeUp = false by rw [hup]; decide)]
    split <;> rfl
  · rw [cascadeForward, if_neg hup, if_pos (by simpa using hup)]

theorem cascadeForward_joined (f : EthFrame) (s : State) :
    (cascadeForward f s).2 = true ↔ s.cascadeUp = true ∧ s.cascadeList.length < 16 := by
  unfold cascadeForward
  split
  · split <;> simp [*]
  · simp [*]

@[simp] theorem cascadeForward_progress (f : EthFrame) (s : State) : (cascadeForward f s).1.progress = s.progress :=
  (congrArg State.progress (cascadeForward_frame f s) :)

@[simp] theorem cascadeForward_label (f : EthFrame) (s : State) : (cascadeForward f s).1.label = s.label :=
  (congrArg State.label (cascadeForward_frame f s) :)

@[simp] theorem cascadeForward_rstLow (f : EthFrame) (s : State) : (cascadeForward f s).1.rstLow = s.rstLow :=
  (congrArg State.rstLow (cascadeForward_frame f s) :)

/-! ### Commands by their label (R164, R166) -/

/-- The context of a command under the broadcast label. -/
def wideCtx (h : CmdHeader) (joined : Bool) : CmdCtx :=
  { source := h.source, tag := h.tag, prov := h.prov, broadcast := true, joined := joined }

theorem broadcastCode_eq_true_iff (code : Byte) : broadcastCode code = true ↔ code = 0x01 ∨ code = 0x1B := by
  rw [broadcastCode, Bool.or_eq_true, beq_iff_eq, beq_iff_eq]

theorem takeCommand_of_busy {ctx : CmdCtx} {code : Byte} (op : CmdOp) {s : State}
    (hwide : ctx.broadcast = true) (hcode : broadcastCode code = true) (hbusy : s.progress ≠ none) :
    takeCommand ctx code op s = sendReply ctx.source ctx.tag code .busy [] s := by
  simp [takeCommand, hwide, hcode, Option.isSome_iff_ne_none.mpr hbusy]

/-- IDENTIFY or RESET under the broadcast label, with no command in progress, is forwarded and then answered by its operation. -/
theorem commandRow_wide {h : CmdHeader} {code : Byte} (op : CmdOp) {s : State} {f : EthFrame} (hlive : s.rstLow = false)
    (hwide : h.broadcast = some f) (hcode : broadcastCode code = true) (hidle : s.progress = none) :
    s.live (commandRow h code op)
      = State.afterAnswer h code (op (wideCtx h (cascadeForward f s).2) (cascadeForward f s).1) := by
  rw [State.live_high hlive]
  simp only [commandRow, hwide, takeCommand, if_true, hcode, Bool.not_true, Bool.and_false, Bool.false_eq_true, if_false,
    cascadeForward_progress, hidle, Option.isSome_none, State.afterAnswer]
  rfl

theorem commandRow_wide_busy {h : CmdHeader} {code : Byte} (op : CmdOp) {s : State} {f : EthFrame} (hlive : s.rstLow = false)
    (hwide : h.broadcast = some f) (hcode : broadcastCode code = true) (hbusy : s.progress ≠ none) :
    s.live (commandRow h code op) = (cascadeForward f s).1.answered h code .busy [] := by
  rw [State.live_high hlive]
  simp only [commandRow, hwide]
  exact takeCommand_of_busy op rfl hcode (by simpa using hbusy)

/-- Every command that a management frame carries is a row that the Agent takes under its code. -/
theorem exec_of_wire {c : Instr} {h : CmdHeader} {code : Byte} {pl : List Byte} (hwire : c.wire = some (h, code, pl)) :
    ∃ op : CmdOp, ∀ s, exec c s = .next (s.live (commandRow h code op)) := by
  cases c <;> simp only [Instr.wire, Option.some.injEq, Prod.mk.injEq, reduceCtorEq] at hwire
  all_goals obtain ⟨rfl, rfl, -⟩ := hwire
  all_goals exact ⟨_, fun s => rfl⟩

/-- Settles O49: a command row by its label, its code and the command in progress. -/
theorem commandsAreTurnedAway : Obligations.CommandsAreTurnedAway := by
  unfold Obligations.CommandsAreTurnedAway
  intro c h code pl s hwire hlive
  obtain ⟨op, hrow⟩ := exec_of_wire hwire
  refine ⟨?own, ?wide⟩
  case own =>
    intro hown hbusy
    rw [hrow, commandRow_busy h code op s hlive hown hbusy]
  case wide =>
    intro f hwide q
    have hq : (cascadeForward f s).1 = q := cascadeForward_state f s
    refine ⟨?badLabel, ?busy, ?identify⟩
    case badLabel =>
      intro hidentify hreset
      have hcode : broadcastCode code = false := by
        rw [Bool.eq_false_iff, Ne, broadcastCode_eq_true_iff]
        tauto
      rw [hrow, commandRow_badLabel h code op s f hlive hwide hcode, hq]
    case busy =>
      intro hcode hbusy
      rw [hrow, commandRow_wide_busy op hlive hwide ((broadcastCode_eq_true_iff code).mpr hcode) hbusy, hq]
    case identify =>
      rintro rfl hidle
      obtain ⟨rfl, -⟩ : code = 0x01 ∧ pl = [] := by
        simpa [Instr.wire, eq_comm] using hwire
      have hrow : exec (.identify h) s = .next (s.live (commandRow h 0x01 opIdentify)) := rfl
      have hlabel : q.label = s.label := hq ▸ cascadeForward_label f s
      have hstraps : q.straps = s.straps := hq ▸ (congrArg State.straps (cascadeForward_frame f s) :)
      have hfuses : q.transportKey = s.transportKey := hq ▸ (congrArg State.transportKey (cascadeForward_frame f s) :)
      rw [hrow, commandRow_wide opIdentify hlive hwide rfl hidle, hq, ← hlabel, ← hstraps, ← hfuses]
      rfl

/-! ### Saturating counters (R4, R27, R97, R173) -/

theorem satInc_toNat (c : BitVec 32) : (satInc c).toNat = min (c.toNat + 1) 4294967295 := by
  unfold satInc
  split
  · rename_i h
    rw [h]
    rfl
  · rename_i h
    have hne : c.toNat ≠ 4294967295 := fun hn => h (BitVec.eq_of_toNat_eq hn)
    have hlt : c.toNat < 4294967296 := c.isLt
    rw [BitVec.toNat_add, Nat.min_eq_left (by omega)]
    exact Nat.mod_eq_of_lt (by simp; omega)

theorem satAdd_toNat (c : BitVec 32) (n : Nat) : (satAdd c n).toNat = min (c.toNat + n) 4294967295 := by
  rw [satAdd, BitVec.toNat_ofNat]
  exact Nat.mod_eq_of_lt (by omega)

/-! ### The Agent's own commands (R165, R167, R168, R173) -/

theorem opSetLabel_of_ne {label : BitVec 16} (h : label ≠ 0xFFFF) (ctx : CmdCtx) (s : State) :
    opSetLabel label ctx s = ({ s with label := label }, .now .ok []) := if_neg h

/-- The 32 counters of a READ_COUNTERS reply, each at its place (R173, R176). -/
theorem counterBytes_layout (s : State) : s.counterBytes.length = 128
    ∧ be32At s.counterBytes 0 = s.counters.officeRxError ∧ be32At s.counterBytes 4 = s.counters.officeHoldOverrun
    ∧ be32At s.counterBytes 8 = s.counters.tunnelTypeIn ∧ be32At s.counterBytes 12 = s.counters.nonIp
    ∧ be32At s.counterBytes 16 = s.counters.classDrop ∧ be32At s.counterBytes 20 = s.counters.mapRange
    ∧ be32At s.counterBytes 24 = s.counters.clearInbound ∧ be32At s.counterBytes 28 = s.counters.malformed
    ∧ be32At s.counterBytes 32 = s.counters.inactiveTunnel ∧ be32At s.counterBytes 36 = s.counters.officeOverrun
    ∧ (∀ u : UplinkId, be32At s.counterBytes (40 + 20 * u.val) = (s.uplink u).txCount
        ∧ be32At s.counterBytes (44 + 20 * u.val) = (s.uplink u).txLost
        ∧ be32At s.counterBytes (48 + 20 * u.val) = (s.uplink u).discards
        ∧ be32At s.counterBytes (52 + 20 * u.val) = (s.uplink u).rxCount
        ∧ be32At s.counterBytes (56 + 20 * u.val) = (s.uplink u).rxError)
    ∧ be32At s.counterBytes 120 = s.counters.mgmtMalformed ∧ be32At s.counterBytes 124 = s.counters.cascadeDrop := by
  simp only [State.counterBytes, Uplink.counterBytes, bytes32, List.cons_append, List.nil_append]
  simp [Fin.forall_fin_succ]

theorem opSetTransportKey_of_low {ctx : CmdCtx} (hprov : ctx.prov = false) (key : BitVec 256) (s : State) :
    opSetTransportKey key ctx s = (s, .now .locked []) := if_pos hprov

theorem opSetTransportKey_of_written {ctx : CmdCtx} (hprov : ctx.prov = true) {s : State} (hfuses : s.transportKey ≠ none)
    (key : BitVec 256) : opSetTransportKey key ctx s = (s, .now .badState []) := by
  simp only [opSetTransportKey, hprov, Bool.true_eq_false, if_false, Option.isSome_iff_ne_none.mpr hfuses, if_true]

theorem opSetTransportKey_of_blank {ctx : CmdCtx} (hprov : ctx.prov = true) {s : State} (hfuses : s.transportKey = none)
    (key : BitVec 256) : opSetTransportKey key ctx s = ({ s with transportKey := some key }, .now .ok []) := by
  simp only [opSetTransportKey, hprov, Bool.true_eq_false, if_false, hfuses, Option.isSome_none, Bool.false_eq_true]

/-- Settles O50: the counters by their bound, each command by what its operation answers. -/
theorem agentCommands : Obligations.AgentCommands := by
  unfold Obligations.AgentCommands
  refine ⟨fun c n => ⟨satInc_toNat c, satAdd_toNat c n⟩, ?commands⟩
  case commands =>
    intro h s ht q
    refine ⟨?identify, ?label, ?badLabel, ?counters, ?fuses⟩
    case identify => exact exec_answered rfl ht rfl
    case label =>
      intro label hlabel
      exact exec_answered rfl ht (opSetLabel_of_ne hlabel _ q)
    case badLabel => exact exec_answered rfl ht rfl
    case counters => exact ⟨_, exec_answered rfl ht rfl, counterBytes_layout s⟩
    case fuses =>
      intro key
      exact ⟨fun hlow => exec_answered rfl ht (opSetTransportKey_of_low (ctx := ownCtx h) hlow key q),
        fun hhigh hwritten => exec_answered rfl ht (opSetTransportKey_of_written (ctx := ownCtx h) (s := q) hhigh hwritten key),
        fun hhigh hblank => exec_answered rfl ht (opSetTransportKey_of_blank (ctx := ownCtx h) (s := q) hhigh hblank key)⟩

end Sys2Proof.Proofs
end

section

namespace Sys2Proof.Proofs

open Sys2Proof Sys2Proof.Machine

/-! ### A command read from a payload, and the operation of its code (R164, R176) -/

theorem byte_eq_of_toNat {code : Byte} {n : Nat} (h : code.toNat = n) : code = BitVec.ofNat 8 n := by
  rw [← h, BitVec.ofNat_toNat, BitVec.setWidth_eq]

/-- The row of a command read from a payload runs the operation that its code and payload name. -/
theorem exec_of_commandOfPayload {h : CmdHeader} {code : Byte} {pl : List Byte} {wrap : Option Wrapping} {m : Nat} {c : Instr}
    (hcode : requiredLength code = some m) (hlength : m ≤ pl.length) (hread : commandOfPayload h code pl wrap = some c)
    (s : State) : exec c s = .next (s.live (commandRow h code (commandOp code pl wrap))) := by
  unfold commandOp
  rw [hcode]
  simp only [if_neg (not_lt.mpr hlength)]
  unfold commandOfPayload at hread
  split at hread
  case h_18 hn =>
    obtain rfl := byte_eq_of_toNat hn
    generalize (byteAt pl 2).toNat = k at hread ⊢
    match k, hread with
    | 0, hread => obtain rfl := Option.some.inj hread; rfl
    | 1, hread => obtain rfl := Option.some.inj hread; rfl
    | _ + 2, hread => cases hread
  case h_25 hn =>
    obtain rfl := byte_eq_of_toNat hn
    generalize (byteAt pl 1).toNat = k at hread ⊢
    match k, hread with
    | 0, hread => obtain rfl := Option.some.inj hread; rfl
    | 1, hread => obtain rfl := Option.some.inj hread; rfl
    | _ + 2, hread => cases hread
  case h_27 hn =>
    obtain rfl := byte_eq_of_toNat hn
    generalize (byteAt pl 0).toNat = k at hread ⊢
    match k, hread with
    | 1, hread => obtain rfl := Option.some.inj hread; rfl
    | 2, hread => obtain rfl := Option.some.inj hread; rfl
    | 3, hread => obtain rfl := Option.some.inj hread; rfl
    | 0, hread => cases hread
    | _ + 4, hread => cases hread
  case h_28 => cases hread
  all_goals
    rename_i hn
    obtain rfl := byte_eq_of_toNat hn
    obtain rfl := Option.some.inj hread
    rfl

/-- What a command read from a frame says of the frame. -/
theorem commandOfFrame_some {f : EthFrame} {prov : Bool} {c : Instr} (h : commandOfFrame f prov = some c) :
    22 + (be16At f.bytes 20).toNat ≤ f.bytes.length ∧ ∃ m, requiredLength (byteAt f.bytes 16) = some m
      ∧ m ≤ (be16At f.bytes 20).toNat
      ∧ commandOfPayload (headerOfFrame f prov) (byteAt f.bytes 16) ((f.bytes.drop 22).take (be16At f.bytes 20).toNat) f.wrap
          = some c := by
  unfold commandOfFrame at h
  simp only [] at h
  split at h
  · cases h
  · rename_i hwhole
    split at h
    · cases h
    · rename_i m hm
      split at h
      · cases h
      · rename_i hlong
        exact ⟨not_lt.mp hwhole, m, hm, not_lt.mp hlong, h⟩

theorem payload_length {bs : List Byte} {n : Nat} (h : 22 + n ≤ bs.length) : ((bs.drop 22).take n).length = n := by
  rw [List.length_take, List.length_drop]
  omega

/-- The Agent's work on a whole frame under the bridge's own label or the broadcast label is the work of a row (R162). -/
theorem takeManagementFrame_of_whole {f : EthFrame} {s : State} (prov : Bool) (hlabel : s.label ≠ broadcastLabel)
    (hcarried : be16At f.bytes 14 = s.label ∨ be16At f.bytes 14 = broadcastLabel)
    (hwhole : 22 + (be16At f.bytes 20).toNat ≤ f.bytes.length) :
    takeManagementFrame f prov s = commandRow (headerOfFrame f prov) (byteAt f.bytes 16)
      (commandOp (byteAt f.bytes 16) ((f.bytes.drop 22).take (be16At f.bytes 20).toNat) f.wrap) s := by
  unfold takeManagementFrame commandRow executeFrame headerOfFrame
  rcases hcarried with hown | hwide
  · have hnarrow : be16At f.bytes 14 ≠ broadcastLabel := hown ▸ hlabel
    simp only [hown, if_true, if_neg (not_lt.mpr hwhole), if_neg hlabel]
  · have hother : broadcastLabel ≠ s.label := hlabel.symm
    simp only [hwide, if_true, if_neg (not_lt.mpr hwhole), if_neg hother]

theorem exec_officeFrameArrival_good {a : OfficeArrival} (hgood : a.frame.good a.fcsOk = true)
    (htype : a.frame.etherType = typeManagement) (s : State) :
    exec (.officeFrameArrival a) s = .next (s.live (takeManagementFrame a.frame a.prov)) := by
  have hstage : ∀ s, typeStage a.frame a.prov s = takeManagementFrame a.frame a.prov s := fun s => if_pos htype
  change Host.Outcome.next (s.live fun s => if a.frame.good a.fcsOk = true then typeStage a.frame a.prov s else _) = _
  simp only [if_pos hgood, hstage]

/-- Settles O23: both sides run the operation of the frame's code under the header of the frame. -/
theorem managementFrameRunsItsCommand : Obligations.ManagementFrameRunsItsCommand := by
  unfold Obligations.ManagementFrameRunsItsCommand
  intro a s c hgood htype hread hlabel hcarried
  obtain ⟨hwhole, m, hcode, hlong, hpayload⟩ := commandOfFrame_some hread
  rw [exec_officeFrameArrival_good hgood htype,
    exec_of_commandOfPayload hcode (by rw [payload_length hwhole]; exact hlong) hpayload]
  cases hlow : s.rstLow
  case true => rw [State.live_low hlow, State.live_low hlow]
  case false => rw [State.live_high hlow, State.live_high hlow, takeManagementFrame_of_whole _ hlabel hcarried hwhole]

end Sys2Proof.Proofs
end

section

namespace Sys2Proof.Proofs

open Sys2Proof Sys2Proof.Machine

/-! ### Operands read back from their bytes (R176) -/

theorem beFold_num8 {n : Nat} (h : n < 256) : beFold 0 (num8 n) = n := by
  simp [beFold, num8, Nat.mod_eq_of_lt h]

theorem beFold_num16 {n : Nat} (h : n < 65536) : beFold 0 (num16 n) = n := by
  rw [num16, beFold_bytes16, BitVec.toNat_ofNat, Nat.mod_eq_of_lt h, Nat.zero_mul, Nat.zero_add]

theorem beFold_num32 {n : Nat} (h : n < 4294967296) : beFold 0 (num32 n) = n := by
  rw [num32, beFold_bytes32, BitVec.toNat_ofNat, Nat.mod_eq_of_lt h, Nat.zero_mul, Nat.zero_add]

section
variable (bs : List Byte) (i k m : Nat)

theorem beNatAt_cons_succ (b : Byte) : beNatAt (b :: bs) (i + 1) k = beNatAt bs i k := rfl
theorem beNatAt_num8_skip : beNatAt (num8 m ++ bs) (i + 1) k = beNatAt bs i k := rfl
theorem beNatAt_num16_skip : beNatAt (num16 m ++ bs) (i + 2) k = beNatAt bs i k := rfl
theorem beNatAt_num32_skip : beNatAt (num32 m ++ bs) (i + 4) k = beNatAt bs i k := rfl

theorem beNatAt_num8 {m : Nat} (h : m < 256) : beNatAt (num8 m ++ bs) 0 1 = m := beFold_num8 h
theorem beNatAt_num8_last {m : Nat} (h : m < 256) : beNatAt (num8 m) 0 1 = m := beFold_num8 h
theorem beNatAt_num16 {m : Nat} (h : m < 65536) : beNatAt (num16 m ++ bs) 0 2 = m := beFold_num16 h
theorem beNatAt_num32 {m : Nat} (h : m < 4294967296) : beNatAt (num32 m ++ bs) 0 4 = m := beFold_num32 h

end

/-- The stored fields of a profile in the order of its table (R28, R176). -/
theorem profile_bytes_eq (p : Profile) : p.bytes =
    num32 p.frameLimit ++ (num16 p.ageLimit ++ (num8 p.rateBeta ++ (num16 p.response ++ (num8 p.retryLimit
      ++ (num16 p.derivation ++ (num16 p.retryHoldoff ++ (num16 p.grace ++ (num16 p.probeOpen ++ (num16 p.probeClosed
      ++ (num8 p.fastBeta ++ (num8 p.baseBeta ++ (num8 p.slowBeta ++ (num16 p.threshold ++ (num8 p.suspectCount
      ++ (num8 p.missLimit ++ (num8 p.seedCount ++ (num16 p.seedMin ++ (num16 p.seedMax ++ (num16 p.reseedBand
      ++ (num16 p.settleThreshold ++ (num8 p.settleSamples ++ (num8 p.releasePct ++ (num16 p.dormancyTimeout
      ++ num8 p.dataLimit))))))))))))))))))))))) := by
  delta Profile.bytes
  simp only [List.append_assoc]

/-- A profile's values are read back as they were written. -/
theorem profile_ofPayload_bytes {p : Profile} (h : p.wireWellFormed = true) (number : Byte) :
    Profile.ofPayload ([number] ++ p.bytes) = p := by
  simp only [Profile.wireWellFormed, Bool.and_eq_true, List.all_cons, List.all_nil, decide_eq_true_eq, Bool.and_true] at h
  simp only [Profile.ofPayload, profile_bytes_eq, List.cons_append, List.nil_append, beNatAt_cons_succ,
    beNatAt_num8_skip, beNatAt_num16_skip, beNatAt_num32_skip, beNatAt_num8_last, beNatAt_num8, beNatAt_num16, beNatAt_num32, h]

/-- The byte of eight present flags, the first the lowest bit (R176). -/
def flagByte (b0 b1 b2 b3 b4 b5 b6 b7 : Bool) : Byte :=
  let bit (b : Bool) (k : Nat) : Byte := if b then BitVec.twoPow 8 k else 0
  bit b0 0 ||| bit b1 1 ||| bit b2 2 ||| bit b3 3 ||| bit b4 4 ||| bit b5 5 ||| bit b6 6 ||| bit b7 7

theorem flagByte_getLsbD : ∀ b0 b1 b2 b3 b4 b5 b6 b7 : Bool, let f := flagByte b0 b1 b2 b3 b4 b5 b6 b7
    f.getLsbD 0 = b0 ∧ f.getLsbD 1 = b1 ∧ f.getLsbD 2 = b2 ∧ f.getLsbD 3 = b3 ∧ f.getLsbD 4 = b4 ∧ f.getLsbD 5 = b5
      ∧ f.getLsbD 6 = b6 ∧ f.getLsbD 7 = b7 := by
  decide +kernel

theorem some_getD_of_isSome {α : Type} (x : Option α) (d : α) : (if x.isSome = true then some (x.getD d) else none) = x := by
  cases x <;> rfl

theorem tunnelWrite_ofPayload_wireBytes (w : TunnelWrite) : TunnelWrite.ofPayload w.wireBytes = w := by
  obtain ⟨h0, h1, h2, h3, h4, h5, h6, h7⟩ := flagByte_getLsbD w.enabled.isSome w.profile.isSome w.peer.isSome w.role.isSome
    w.reference.isSome w.weight.isSome w.shadowGroup.isSome w.snoop.isSome
  have hflags : byteAt w.wireBytes 2 = flagByte w.enabled.isSome w.profile.isSome w.peer.isSome w.role.isSome
    w.reference.isSome w.weight.isSome w.shadowGroup.isSome w.snoop.isSome := rfl
  have htunnel : be16At w.wireBytes 0 = w.tunnel := be16At_bytes16 w.tunnel
  have hpeer : be48At w.wireBytes 8 = w.peer.getD 0 := be48At_bytes48 (w.peer.getD 0)
  have hreference : be16At w.wireBytes 14 = w.reference.getD 0 := be16At_bytes16 (w.reference.getD 0)
  have hweight : be16At w.wireBytes 16 = w.weight.getD 0 := be16At_bytes16 (w.weight.getD 0)
  have hbytes : byteAt w.wireBytes 3 = w.enabled.getD 0 ∧ byteAt w.wireBytes 4 = w.profile.getD 0
    ∧ byteAt w.wireBytes 5 = w.role.getD 0 ∧ byteAt w.wireBytes 6 = w.shadowGroup.getD 0
    ∧ byteAt w.wireBytes 7 = w.snoop.getD 0 := ⟨rfl, rfl, rfl, rfl, rfl⟩
  obtain ⟨henabled, hprofile, hrole, hgroup, hsnoop⟩ := hbytes
  simp only [TunnelWrite.ofPayload, hflags, h0, h1, h2, h3, h4, h5, h6, h7, htunnel, hpeer, hreference, hweight, henabled,
    hprofile, hrole, hgroup, hsnoop, some_getD_of_isSome]

theorem beNatAt_bytes256 (key : BitVec 256) : BitVec.ofNat 256 (beNatAt (bytes256 key) 0 32) = key := by
  have hwhole : ((bytes256 key).drop 0).take 32 = bytes128 (key.extractLsb' 128 128) ++ bytes128 (key.extractLsb' 0 128) := rfl
  have hparts : 0 * 2 ^ 128 + (key.extractLsb' 128 128).toNat = key.toNat / 2 ^ 128 := by
    rw [BitVec.extractLsb'_toNat, Nat.shiftRight_eq_div_pow]
    have hkey : key.toNat < 2 ^ 256 := key.isLt
    omega
  rw [beNatAt_eq, hwhole, beFold_append, beFold_bytes128, beFold_bytes128, hparts, BitVec.extractLsb'_toNat]
  apply BitVec.eq_of_toNat_eq
  rw [BitVec.toNat_ofNat, Nat.shiftRight_zero]
  have hkey : key.toNat < 2 ^ 256 := key.isLt
  omega

/-! ### A command written as a management frame -/

theorem requiredLength_le {code : Byte} {n : Nat} (h : requiredLength code = some n) : n ≤ 58 := by
  unfold requiredLength at h
  split at h <;> simp only [Option.some.injEq, reduceCtorEq] at h
  all_goals omega

theorem profile_bytes_length (p : Profile) : p.bytes.length = 41 := by
  simp only [profile_bytes_eq, num8, num16, num32, bytes16, bytes32, List.length_append, List.length_cons, List.length_nil]

/-- The payload of a command has the length its code requires (R176). -/
theorem requiredLength_of_wire {c : Instr} {h : CmdHeader} {code : Byte} {pl : List Byte}
    (hwire : c.wire = some (h, code, pl)) : requiredLength code = some pl.length := by
  cases c <;> simp only [Instr.wire, Option.some.injEq, Prod.mk.injEq, reduceCtorEq] at hwire
  all_goals obtain ⟨-, rfl, rfl⟩ := hwire
  case writeProfile h number p =>
    rw [List.length_append, profile_bytes_length]
    rfl
  all_goals simp [requiredLength, bytes16, bytes32, bytes128, bytes256, TunnelWrite.wireBytes, bytes48]

/-- A command is read back from its own payload, every operand as it was. -/
theorem commandOfPayload_of_wire {c : Instr} {h : CmdHeader} {code : Byte} {pl : List Byte} (hwell : c.wellFormed = true)
    (hwire : c.wire = some (h, code, pl)) : commandOfPayload h code pl c.wrapping = some c := by
  cases c <;> simp only [Instr.wire, Option.some.injEq, Prod.mk.injEq, reduceCtorEq] at hwire
  all_goals obtain ⟨rfl, rfl, rfl⟩ := hwire
  case writeProfile h number p =>
    have hp : p.wireWellFormed = true := (Bool.and_eq_true_iff.mp hwell).2
    exact congrArg (fun q => some (Instr.writeProfile h number q)) (profile_ofPayload_bytes hp number)
  case writeTunnel h w => exact congrArg (fun x => some (Instr.writeTunnel h x)) (tunnelWrite_ofPayload_wireBytes w)
  case setTransportKey h key => exact congrArg (fun x => some (Instr.setTransportKey h x)) (beNatAt_bytes256 key)
  all_goals simp [commandOfPayload, bytes16, Instr.wrapping]

/-- The management frame of a command, byte by byte. -/
def wireFrame (dst : Mac) (label : BitVec 16) (c : Instr) (h : CmdHeader) (code : Byte) (pl : List Byte) : EthFrame where
  bytes := bytes48 dst ++ bytes48 h.source ++ bytes16 typeManagement ++ bytes16 label ++ [code, 0] ++ bytes16 h.tag
    ++ num16 pl.length ++ pl ++ List.replicate (60 - (22 + pl.length)) 0
  wrap := c.wrapping

theorem frameOfCommand_of_wire (dst : Mac) (label : BitVec 16) {c : Instr} {h : CmdHeader} {code : Byte} {pl : List Byte}
    (hwire : c.wire = some (h, code, pl)) : frameOfCommand dst label c = some (wireFrame dst label c h code pl) := by
  have hlength : (bytes48 dst ++ bytes48 h.source ++ bytes16 typeManagement ++ bytes16 label ++ [code, 0] ++ bytes16 h.tag
    ++ num16 pl.length ++ pl).length = 22 + pl.length := by
    simp [bytes48, bytes16, num16]
    omega
  rw [frameOfCommand, hwire, Option.map_some]
  simp only [hlength]
  rfl

/-- What stands before the payload of a command's frame. -/
theorem wireFrame_layout (dst : Mac) (label : BitVec 16) (c : Instr) (h : CmdHeader) (code : Byte) (pl : List Byte) :
    let bs := (wireFrame dst label c h code pl).bytes
    be48At bs 6 = h.source ∧ be16At bs 12 = typeManagement ∧ be16At bs 14 = label ∧ byteAt bs 16 = code ∧ be16At bs 18 = h.tag
      ∧ be16At bs 20 = BitVec.ofNat 16 pl.length ∧ bs.drop 22 = pl ++ List.replicate (60 - (22 + pl.length)) 0 := by
  simp [wireFrame, bytes48, bytes16, num16]

theorem wireFrame_length (dst : Mac) (label : BitVec 16) (c : Instr) (h : CmdHeader) (code : Byte) (pl : List Byte) :
    (wireFrame dst label c h code pl).bytes.length = max 60 (22 + pl.length) := by
  simp [wireFrame, bytes48, bytes16, num16]
  omega

/-- Settles O22: the frame's fields, and the payload read back operand by operand. -/
theorem commandFrameRoundTrip : Obligations.CommandFrameRoundTrip := by
  unfold Obligations.CommandFrameRoundTrip
  intro c h code pl dst label f hwell hwire hown hlabel hframe
  have hcode := requiredLength_of_wire hwire
  have hshort := requiredLength_le hcode
  obtain rfl : wireFrame dst label c h code pl = f := by
    rw [frameOfCommand_of_wire dst label hwire] at hframe
    exact Option.some.inj hframe
  obtain ⟨hsource, htype, hcarried, hbyte, htag, hcount, hpayload⟩ := wireFrame_layout dst label c h code pl
  have hlength := wireFrame_length dst label c h code pl
  have hn : (be16At (wireFrame dst label c h code pl).bytes 20).toNat = pl.length := by
    rw [hcount, BitVec.toNat_ofNat]
    exact Nat.mod_eq_of_lt (by omega)
  have hheader : headerOfFrame (wireFrame dst label c h code pl) h.prov = h := by
    simp only [headerOfFrame, hsource, htag, hcarried, if_neg hlabel, ← hown]
  refine ⟨?good, htype, hcarried, ?command⟩
  case good =>
    simp only [EthFrame.good, EthFrame.wireLength, hlength, Bool.true_and, Bool.and_eq_true, decide_eq_true_eq]
    omega
  case command =>
    have hwhole : ¬ (wireFrame dst label c h code pl).bytes.length < 22 + pl.length := by omega
    rw [commandOfFrame]
    simp only [hn, hbyte, hcode, if_neg hwhole, lt_irrefl, if_false, hpayload, List.take_left', hheader]
    exact commandOfPayload_of_wire hwell hwire

end Sys2Proof.Proofs
end

section

namespace Sys2Proof.Proofs

open Sys2Proof Sys2Proof.Machine

/-! ### OFFICE_FRAME_ARRIVAL: the type stage (R1, R2) -/

theorem ethFrame_good_iff (f : EthFrame) (fcsOk : Bool) :
    f.good fcsOk = true ↔ fcsOk = true ∧ 64 ≤ f.bytes.length + 4 ∧ f.bytes.length + 4 ≤ 1518 := by
  simp [EthFrame.good, EthFrame.wireLength, and_assoc]

theorem exec_officeFrameArrival_bad {a : OfficeArrival} {s : State} (hlive : s.rstLow = false)
    (hbad : a.frame.good a.fcsOk = false) : exec (.officeFrameArrival a) s
      = .next { s with counters := { s.counters with officeRxError := satInc s.counters.officeRxError } } := by
  change Host.Outcome.next (s.live fun s => if a.frame.good a.fcsOk = true then _ else _) = _
  rw [State.live_high hlive, if_neg (by simp [hbad])]
  rfl

theorem exec_officeFrameArrival_typeStage {a : OfficeArrival} {s : State} (hlive : s.rstLow = false)
    (hgood : a.frame.good a.fcsOk = true) : exec (.officeFrameArrival a) s = .next (typeStage a.frame a.prov s) := by
  change Host.Outcome.next (s.live fun s => if a.frame.good a.fcsOk = true then _ else _) = _
  rw [State.live_high hlive, if_pos hgood]

theorem typeStage_of_tunnelType {f : EthFrame} (htype : f.etherType = 0x88B6) (prov : Bool) (s : State) :
    typeStage f prov s = { s with counters := { s.counters with tunnelTypeIn := satInc s.counters.tunnelTypeIn } } := by
  rw [typeStage, if_neg (by rw [htype]; decide), if_pos (show f.etherType = typeTunnel from htype)]
  rfl

theorem typeStage_of_other {f : EthFrame} (hmanagement : f.etherType ≠ 0x88B5) (htunnel : f.etherType ≠ 0x88B6) (prov : Bool)
    (s : State) : typeStage f prov s = if s.holding.length < 256 then { s with holding := s.holding ++ [f] }
      else { s with counters := { s.counters with officeHoldOverrun := satInc s.counters.officeHoldOverrun } } := by
  rw [typeStage, if_neg (show ¬ f.etherType = typeManagement from hmanagement),
    if_neg (show ¬ f.etherType = typeTunnel from htunnel)]
  rfl

/-! ### A management frame by its label (R162, R163) -/

theorem takeManagementFrame_of_foreign {f : EthFrame} {s : State} (hown : be16At f.bytes 14 ≠ s.label)
    (hwide : be16At f.bytes 14 ≠ 0xFFFF) (prov : Bool) : takeManagementFrame f prov s =
      if s.cascadeUp = true then (cascadeForward f s).1
      else post .mgmtMisdirected none ((be16At f.bytes 14).setWidth 32) s := by
  simp only [takeManagementFrame]
  rw [if_neg hown, if_neg (show ¬ be16At f.bytes 14 = broadcastLabel from hwide)]

theorem takeManagementFrame_of_own {f : EthFrame} {s : State} (hown : be16At f.bytes 14 = s.label) (prov : Bool) :
    takeManagementFrame f prov s = executeFrame f prov false false s := by
  simp only [takeManagementFrame]
  rw [if_pos hown]

theorem takeManagementFrame_of_wide {f : EthFrame} {s : State} (hown : be16At f.bytes 14 ≠ s.label)
    (hwide : be16At f.bytes 14 = 0xFFFF) (prov : Bool) :
    takeManagementFrame f prov s = executeFrame f prov true (cascadeForward f s).2 (cascadeForward f s).1 := by
  simp only [takeManagementFrame]
  rw [if_neg hown, if_pos (show be16At f.bytes 14 = broadcastLabel from hwide)]

theorem executeFrame_of_short {f : EthFrame} (hshort : f.bytes.length < 22 + (be16At f.bytes 20).toNat) (prov wide joined : Bool)
    (s : State) : executeFrame f prov wide joined s
      = { s with counters := { s.counters with mgmtMalformed := satInc s.counters.mgmtMalformed } } := by
  simp only [executeFrame]
  rw [if_pos hshort]
  rfl

/-- The operation that a frame's code and payload name. -/
def frameOp (f : EthFrame) : CmdOp :=
  commandOp (byteAt f.bytes 16) ((f.bytes.drop 22).take (be16At f.bytes 20).toNat) f.wrap

theorem executeFrame_of_whole {f : EthFrame} (hwhole : 22 + (be16At f.bytes 20).toNat ≤ f.bytes.length)
    (prov wide joined : Bool) (s : State) : executeFrame f prov wide joined s =
      takeCommand { source := be48At f.bytes 6, tag := be16At f.bytes 18, prov := prov, broadcast := wide, joined := joined }
        (byteAt f.bytes 16) (frameOp f) s := by
  simp only [executeFrame]
  rw [if_neg (not_lt.mpr hwhole)]
  rfl

theorem cascadeForward_malformed (f : EthFrame) (s : State) :
    (cascadeForward f s).1.counters.mgmtMalformed = s.counters.mgmtMalformed := by
  rw [cascadeForward_state]
  split
  · rfl
  · split <;> rfl

/-! ### Taking a command, by its answer (R164, R166) -/

theorem takeCommand_of_badLabel {ctx : CmdCtx} {code : Byte} (op : CmdOp) {s : State} (hwide : ctx.broadcast = true)
    (hcode : broadcastCode code = false) : takeCommand ctx code op s = sendReply ctx.source ctx.tag code .badLabel [] s := by
  simp [takeCommand, hwide, hcode]

theorem takeCommand_of_own_busy {ctx : CmdCtx} (code : Byte) (op : CmdOp) {s : State} (hown : ctx.broadcast = false)
    (hbusy : s.progress ≠ none) :
    takeCommand ctx code op s = sendReply ctx.source ctx.tag code .busy [] { s with station := some ctx.source } := by
  simp [takeCommand, hown, Option.isSome_iff_ne_none.mpr hbusy]

theorem takeCommand_of_own_refused {ctx : CmdCtx} (code : Byte) (st : Status) {s : State} (hown : ctx.broadcast = false)
    (hidle : s.progress = none) :
    takeCommand ctx code (refuse st) s = sendReply ctx.source ctx.tag code st [] { s with station := some ctx.source } := by
  simp [takeCommand, hown, hidle, refuse]

theorem takeCommand_of_wide_refused {ctx : CmdCtx} {code : Byte} (st : Status) {s : State} (hwide : ctx.broadcast = true)
    (hcode : broadcastCode code = true) (hidle : s.progress = none) :
    takeCommand ctx code (refuse st) s = sendReply ctx.source ctx.tag code st [] s := by
  simp [takeCommand, hwide, hcode, hidle, refuse]

/-! ### Which codes and payloads name a command (R164, R176) -/

/-- The codes of the command set and the payload lengths they require (R176). -/
def codeTable : List (Nat × Nat) :=
  [(0x01, 0), (0x02, 2), (0x03, 0), (0x04, 0), (0x05, 7), (0x06, 3), (0x07, 0), (0x08, 1), (0x09, 6), (0x0A, 2),
   (0x0B, 1), (0x0C, 0), (0x0D, 42), (0x0E, 1), (0x0F, 18), (0x10, 2), (0x11, 58), (0x12, 3), (0x13, 2), (0x14, 3),
   (0x15, 2), (0x16, 5), (0x17, 6), (0x18, 2), (0x19, 3), (0x1A, 32), (0x1B, 1)]

theorem codeTable_iff : ∀ code : Byte, ∀ k ∈ codeTable, code.toNat = k.1 → requiredLength code = some k.2 := by
  intro code k hk hcode
  obtain rfl := byte_eq_of_toNat hcode
  fin_cases hk <;> rfl

theorem mem_codeTable {code : Byte} {n : Nat} (h : requiredLength code = some n) : (code.toNat, n) ∈ codeTable := by
  unfold requiredLength at h
  split at h <;> simp only [Option.some.injEq, reduceCtorEq] at h
  all_goals
    rename_i hcode
    rw [hcode, ← h]
    decide

/-- A frame of code `code` with `n` bytes of payload, the second and the first byte of a sub-code among them, names no command
(R164, R169, R176). -/
def Refused (bytes : List Byte) : Prop :=
  let n := (be16At bytes 20).toNat
  let code := byteAt bytes 16
  ¬ (∃ k ∈ codeTable, code.toNat = k.1 ∧ k.2 ≤ n)
    ∨ (code = 0x12 ∧ 1 < (byteAt bytes 24).toNat) ∨ (code = 0x19 ∧ 1 < (byteAt bytes 23).toNat)
    ∨ (code = 0x1B ∧ byteAt bytes 22 ≠ 1 ∧ byteAt bytes 22 ≠ 2 ∧ byteAt bytes 22 ≠ 3)

/-- Why a frame that names no command is refused (R164). -/
def refusal (code : Byte) : Status := if code = 0 ∨ 0x1B < code.toNat then .unknownCmd else .badArg

theorem byteAt_payload (bs : List Byte) {n i : Nat} (hi : i < n) : byteAt ((bs.drop 22).take n) i = byteAt bs (22 + i) := by
  simp [byteAt, List.getD_eq_getElem?_getD, hi, List.getElem?_drop]

theorem refusal_of_unknown {code : Byte} (h : requiredLength code = none) : refusal code = .unknownCmd := by
  refine if_pos (by_contra fun hknown => ?_)
  obtain ⟨hzero, hle⟩ := not_or.mp hknown
  rw [not_lt] at hle
  have hpos : code.toNat ≠ 0 := fun hn => hzero (BitVec.eq_of_toNat_eq hn)
  generalize hc : code.toNat = n at hpos hle
  obtain rfl := byte_eq_of_toNat hc
  interval_cases n <;> first | exact hpos rfl | cases h

theorem refusal_of_known {code : Byte} {n : Nat} (h : requiredLength code = some n) : refusal code = .badArg := by
  refine if_neg fun hunknown => ?_
  have hmem := mem_codeTable h
  have hrange : ∀ k ∈ codeTable, 0 < k.1 ∧ k.1 ≤ 0x1B := by decide
  obtain ⟨hlow, hhigh⟩ := hrange _ hmem
  rcases hunknown with rfl | hbig
  · exact absurd (show 0 < (0 : Byte).toNat from hlow) (by decide)
  · simp only at hhigh
    omega

/-! ### A refused frame, and a frame that carries a command -/

theorem requiredLength_of_known {code : Byte} {n : Nat} (h : ∃ k ∈ codeTable, code.toNat = k.1 ∧ k.2 ≤ n) :
    ∃ m, requiredLength code = some m ∧ m ≤ n := by
  obtain ⟨k, hk, hcode, hle⟩ := h
  exact ⟨k.2, codeTable_iff code k hk hcode, hle⟩

theorem commandOp_of_short {code : Byte} {pl : List Byte} (wrap : Option Wrapping)
    (h : ¬ ∃ k ∈ codeTable, code.toNat = k.1 ∧ k.2 ≤ pl.length) : commandOp code pl wrap = refuse (refusal code) := by
  unfold commandOp
  cases hcode : requiredLength code with
  | none => rw [refusal_of_unknown hcode]
  | some m =>
    have hshort : pl.length < m := not_le.mp fun hle => h ⟨_, mem_codeTable hcode, rfl, hle⟩
    simp only [if_pos hshort, refusal_of_known hcode]

theorem commandOp_of_noScope {pl : List Byte} (wrap : Option Wrapping) (hlong : 3 ≤ pl.length)
    (hscope : 1 < (byteAt pl 2).toNat) : commandOp 0x12 pl wrap = refuse .badArg := by
  have hfits : ¬ pl.length < 3 := not_lt.mpr hlong
  change (if pl.length < 3 then _ else match (byteAt pl 2).toNat with
    | 0 => _
    | 1 => _
    | _ => _) = _
  rw [if_neg hfits]
  split <;> first | omega | rfl

theorem commandOp_of_noRequest {pl : List Byte} (wrap : Option Wrapping) (hlong : 3 ≤ pl.length)
    (hrequest : 1 < (byteAt pl 1).toNat) : commandOp 0x19 pl wrap = refuse .badArg := by
  have hfits : ¬ pl.length < 3 := not_lt.mpr hlong
  change (if pl.length < 3 then _ else match (byteAt pl 1).toNat with
    | 0 => _
    | 1 => _
    | _ => _) = _
  rw [if_neg hfits]
  split <;> first | omega | rfl

theorem commandOp_of_noLevel {pl : List Byte} (wrap : Option Wrapping) (hlong : 1 ≤ pl.length)
    (hlevel : byteAt pl 0 ≠ 1 ∧ byteAt pl 0 ≠ 2 ∧ byteAt pl 0 ≠ 3) : commandOp 0x1B pl wrap = refuse .badArg := by
  have hfits : ¬ pl.length < 1 := not_lt.mpr hlong
  obtain ⟨hone, htwo, hthree⟩ := hlevel
  change (if pl.length < 1 then _ else match (byteAt pl 0).toNat with
    | 1 => _
    | 2 => _
    | 3 => _
    | _ => _) = _
  rw [if_neg hfits]
  split
  case h_1 h => exact absurd (BitVec.eq_of_toNat_eq h) hone
  case h_2 h => exact absurd (BitVec.eq_of_toNat_eq h) htwo
  case h_3 h => exact absurd (BitVec.eq_of_toNat_eq h) hthree
  case h_4 => rfl

theorem frameOp_of_refused {f : EthFrame} (hwhole : 22 + (be16At f.bytes 20).toNat ≤ f.bytes.length)
    (h : Refused f.bytes) : frameOp f = refuse (refusal (byteAt f.bytes 16)) := by
  have hlength := payload_length hwhole
  by_cases hknown : ∃ k ∈ codeTable, (byteAt f.bytes 16).toNat = k.1 ∧ k.2 ≤ (be16At f.bytes 20).toNat
  · obtain ⟨m, hcode, hlong⟩ := requiredLength_of_known hknown
    unfold frameOp
    rcases h with hunknown | ⟨hop, hscope⟩ | ⟨hop, hrequest⟩ | ⟨hop, hlevel⟩
    · exact absurd hknown hunknown
    all_goals
      rw [hop] at hcode ⊢
      obtain rfl := Option.some.inj hcode
    · exact commandOp_of_noScope _ (by rw [hlength]; exact hlong) (by rw [byteAt_payload _ (by omega)]; exact hscope)
    · exact commandOp_of_noRequest _ (by rw [hlength]; exact hlong) (by rw [byteAt_payload _ (by omega)]; exact hrequest)
    · exact commandOp_of_noLevel _ (by rw [hlength]; exact hlong) (by rw [byteAt_payload _ (by omega)]; exact hlevel)
  · exact commandOp_of_short _ (by rw [hlength]; exact hknown)

/-- A code of the table with a sub-code that exists names a row. -/
theorem commandOfPayload_isSome {h : CmdHeader} {code : Byte} {pl : List Byte} {wrap : Option Wrapping} {m : Nat}
    (hcode : requiredLength code = some m) (hscope : code = 0x12 → (byteAt pl 2).toNat ≤ 1)
    (hrequest : code = 0x19 → (byteAt pl 1).toNat ≤ 1)
    (hlevel : code = 0x1B → byteAt pl 0 = 1 ∨ byteAt pl 0 = 2 ∨ byteAt pl 0 = 3) :
    ∃ c, commandOfPayload h code pl wrap = some c := by
  unfold commandOfPayload
  split
  case h_18 hn =>
    have hsub := hscope (byte_eq_of_toNat hn)
    split
    case h_3 hzero hone => exact absurd (Nat.le_one_iff_eq_zero_or_eq_one.mp hsub) (not_or.mpr ⟨hzero, hone⟩)
    all_goals exact ⟨_, rfl⟩
  case h_25 hn =>
    have hsub := hrequest (byte_eq_of_toNat hn)
    split
    case h_3 hzero hone => exact absurd (Nat.le_one_iff_eq_zero_or_eq_one.mp hsub) (not_or.mpr ⟨hzero, hone⟩)
    all_goals exact ⟨_, rfl⟩
  case h_27 hn =>
    have hsub := hlevel (byte_eq_of_toNat hn)
    split
    case h_4 hone htwo hthree =>
      rcases hsub with hsub | hsub | hsub
      · exact absurd (congrArg BitVec.toNat hsub) hone
      · exact absurd (congrArg BitVec.toNat hsub) htwo
      · exact absurd (congrArg BitVec.toNat hsub) hthree
    all_goals exact ⟨_, rfl⟩
  case h_28 =>
    have hmem := mem_codeTable hcode
    simp only [codeTable, List.mem_cons, Prod.mk.injEq, List.not_mem_nil, or_false] at hmem
    simp_all
  all_goals exact ⟨_, rfl⟩

theorem commandOfFrame_of_not_refused {f : EthFrame} (prov : Bool)
    (hwhole : 22 + (be16At f.bytes 20).toNat ≤ f.bytes.length) (h : ¬ Refused f.bytes) :
    ∃ c, commandOfFrame f prov = some c := by
  obtain ⟨hknown, hscope, hrequest, hlevel⟩ := not_or.mp h |>.imp not_not.mp fun h => not_or.mp h |>.imp_right not_or.mp
  obtain ⟨m, hcode, hlong⟩ := requiredLength_of_known hknown
  have hlength (k : Nat) (code : Byte) (hop : byteAt f.bytes 16 = code) (hk : requiredLength code = some k) :
      k ≤ (be16At f.bytes 20).toNat := by
    rw [hop, hk] at hcode
    obtain rfl := Option.some.inj hcode
    exact hlong
  simp only [commandOfFrame, if_neg (not_lt.mpr hwhole), hcode, if_neg (not_lt.mpr hlong)]
  refine commandOfPayload_isSome hcode (fun hop => ?_) (fun hop => ?_) (fun hop => ?_)
  · have := hlength 3 _ hop rfl
    rw [byteAt_payload _ (by omega)]
    exact not_lt.mp fun hbig => hscope ⟨hop, hbig⟩
  · have := hlength 3 _ hop rfl
    rw [byteAt_payload _ (by omega)]
    exact not_lt.mp fun hbig => hrequest ⟨hop, hbig⟩
  · have := hlength 1 _ hop rfl
    rw [byteAt_payload _ (by omega)]
    exact by_contra fun hno => hlevel ⟨hop, not_or.mp hno |>.imp_right not_or.mp⟩

/-! ### The arrival -/

theorem exec_officeFrameArrival_management {a : OfficeArrival} {s : State} (hlive : s.rstLow = false)
    (hgood : a.frame.good a.fcsOk = true) (htype : a.frame.etherType = 0x88B5) :
    exec (.officeFrameArrival a) s = .next (takeManagementFrame a.frame a.prov s) := by
  rw [exec_officeFrameArrival_good hgood htype, State.live_high hlive]

/-- Settles O27: by the stages of the receive path, and a management frame by its label and its answer. -/
theorem officeFrameArrives : Obligations.OfficeFrameArrives := by
  refine ⟨fun a s hlive => ⟨ethFrame_good_iff _ _, exec_officeFrameArrival_bad hlive, fun hgood htype => ?_,
    fun hgood hmanagement htunnel hroom => ?_, fun hgood hmanagement htunnel hfull => ?_⟩,
    fun a s hlive hgood htype => ?_, fun a s hlive hgood htype => ?_⟩
  · rw [exec_officeFrameArrival_typeStage hlive hgood, typeStage_of_tunnelType htype]
  · rw [exec_officeFrameArrival_typeStage hlive hgood, typeStage_of_other hmanagement htunnel, if_pos hroom]
  · rw [exec_officeFrameArrival_typeStage hlive hgood, typeStage_of_other hmanagement htunnel, if_neg (not_lt.mpr hfull)]
  · rw [exec_officeFrameArrival_management hlive hgood htype]
    refine ⟨fun hown hwide hup hroom => ?_, fun hown hwide hup hfull => ?_, fun hown hwide hdown => ?_⟩
    all_goals rw [takeManagementFrame_of_foreign hown hwide]
    · rw [if_pos hup, cascadeForward_state, if_neg (by simp [hup]), if_pos hroom]
    · rw [if_pos hup, cascadeForward_state, if_neg (by simp [hup]), if_neg (not_lt.mpr hfull)]
    · rw [if_neg (by simp [hdown])]
  · rw [exec_officeFrameArrival_management hlive hgood htype]
    intro bytes own wide n code h forwarded refused why
    have hforward : forwarded = (cascadeForward a.frame s).1 := (cascadeForward_state a.frame s).symm
    rw [hforward]
    refine ⟨fun hown hshort => ?_, fun hwide hshort => ?_, fun hown hwhole hbusy => ?_, fun hown hwhole hidle hrefused => ?_,
      fun hwide hwhole hidentify hreset => ?_, fun hwide hwhole hcode hbusy => ?_, fun hwide hwhole hcode hidle hrefused => ?_,
      fun hlabel hwhole hcommand => ?_⟩
    · rw [takeManagementFrame_of_own hown, executeFrame_of_short hshort]
    · rw [takeManagementFrame_of_wide hwide.1 hwide.2, executeFrame_of_short hshort, cascadeForward_malformed]
    · rw [takeManagementFrame_of_own hown, executeFrame_of_whole hwhole, takeCommand_of_own_busy _ _ rfl hbusy]
      rfl
    · rw [takeManagementFrame_of_own hown, executeFrame_of_whole hwhole, frameOp_of_refused hwhole hrefused,
        takeCommand_of_own_refused _ _ rfl hidle]
      rfl
    · have hcode : broadcastCode code = false := by
        rw [← Bool.not_eq_true, broadcastCode_eq_true_iff]
        exact not_or.mpr ⟨hidentify, hreset⟩
      rw [takeManagementFrame_of_wide hwide.1 hwide.2, executeFrame_of_whole hwhole, takeCommand_of_badLabel _ rfl hcode]
      rfl
    · rw [takeManagementFrame_of_wide hwide.1 hwide.2, executeFrame_of_whole hwhole,
        takeCommand_of_busy _ rfl ((broadcastCode_eq_true_iff code).mpr hcode) (by simpa using hbusy)]
      rfl
    · have hwhy : refusal (byteAt a.frame.bytes 16) = .badArg := by
        rw [show byteAt a.frame.bytes 16 = 0x1B from hcode]
        rfl
      rw [takeManagementFrame_of_wide hwide.1 hwide.2, executeFrame_of_whole hwhole, frameOp_of_refused hwhole hrefused, hwhy,
        takeCommand_of_wide_refused _ rfl ((broadcastCode_eq_true_iff code).mpr (.inr hcode)) (by simpa using hidle)]
      rfl
    · obtain ⟨c, hc⟩ := commandOfFrame_of_not_refused a.prov hwhole hcommand
      refine ⟨c, hc, fun hown => ?_⟩
      rw [← managementFrameRunsItsCommand a s c hgood htype hc hown (hlabel.imp_right And.right),
        exec_officeFrameArrival_management hlive hgood htype]

end Sys2Proof.Proofs
end

section

namespace Sys2Proof.Proofs

open Sys2Proof Sys2Proof.Machine

/-! ### Entries replaced and queues joined -/

theorem actsAt_after {t : TunnelId} {s r : State} (h : ActsAt t s r) (d : Nat) : r.after d = s.after d := by
  simp only [State.after, h.fields.2.1]

theorem actsAt_prof {t : TunnelId} {s r : State} (h : ActsAt t s r) (hprofile : (r.tun t).cfg.profile = (s.tun t).cfg.profile) :
    r.prof t = s.prof t := by
  simp only [State.prof, hprofile, h.fields.2.2.2.1]

theorem setList_setTun (s : State) (g : UplinkId) (l : List TunnelId) (t : TunnelId) (x : Tunnel) :
    (s.setList g l).setTun t x = (s.setTun t x).setList g l := rfl

theorem enqueue_eq (t : TunnelId) (f : CarrierFrame) (s : State) :
    enqueue t f s = if (s.tun t).egress = [] then
      (s.setTun t { s.tun t with egress := (s.tun t).egress ++ [f] }).setList (s.tun t).cfg.activeGroup
        (s.list (s.tun t).cfg.activeGroup ++ [t])
      else s.setTun t { s.tun t with egress := (s.tun t).egress ++ [f] } := by
  by_cases h : (s.tun t).egress = []
  · rw [enqueue_of_empty t f s h, if_pos h, h]
    rfl
  · rw [enqueue_of_waiting t f s h, if_neg h]

/-- A change of the entry other than its queue and its group may be made before or after a frame joins the queue. -/
theorem enqueue_setTun_comm (t : TunnelId) (f : CarrierFrame) (s : State) (x : Tunnel) (hq : x.egress = (s.tun t).egress)
    (hg : x.cfg.activeGroup = (s.tun t).cfg.activeGroup) :
    enqueue t f (s.setTun t x) = (enqueue t f s).setTun t { x with egress := x.egress ++ [f] } := by
  by_cases h : x.egress = []
  · rw [enqueue_of_empty t f s (hq ▸ h), enqueue_of_empty t f _ (by simpa using h)]
    simp only [setList_setTun, State.setTun_setTun, State.tun_setTun_self, State.list_setTun, h, hg, List.nil_append]
  · rw [enqueue_of_waiting t f s (hq ▸ h), enqueue_of_waiting t f _ (by simpa using h)]
    simp

theorem sum_set (l : List Nat) (i : Nat) (hi : i < l.length) (n : Nat) : (l.set i n).sum + l[i] = l.sum + n := by
  induction l generalizing i with
  | nil => simp at hi
  | cons a l ih =>
    cases i with
    | zero => simp; omega
    | succ i =>
      have := ih i (by simpa using hi)
      simp only [List.set_cons_succ, List.sum_cons, List.getElem_cons_succ]
      omega

/-- The slots in use follow the length of the queue of an entry that is replaced. -/
theorem usedSlots_setTun (s : State) (t : TunnelId) (x : Tunnel) :
    (s.setTun t x).usedSlots + (s.tun t).egress.length = s.usedSlots + x.egress.length := by
  have hsum := sum_set (s.tunnels.toList.map fun t => t.egress.length) t.val (by simp) x.egress.length
  have hset : (s.setTun t x).tunnels.toList.map (fun t => t.egress.length)
      = (s.tunnels.toList.map fun t => t.egress.length).set t.val x.egress.length := by
    simp only [State.setTun, Vector.toList_set, List.map_set]
  have hget : (s.tunnels.toList.map fun t => t.egress.length)[t.val]'(by simp) = (s.tun t).egress.length := by
    simp [State.tun]
  rw [hget] at hsum
  simp only [State.usedSlots, hset]
  change _ + s.officeQueue.length + s.officeTx.toList.length + (s.uplinks.toList.filter _).length + _ = _
  omega

theorem freeSlots_setTun {s : State} {t : TunnelId} {x : Tunnel} (h : x.egress.length = (s.tun t).egress.length) :
    (s.setTun t x).freeSlots = s.freeSlots := by
  have := usedSlots_setTun s t x
  simp only [State.freeSlots]
  omega

/-! ### Sending an OFFER (R36, R38, R64) -/

theorem sendOffer_of_room {t : TunnelId} {s : State} {g : Gen0} (hg : (s.tun t).gen0 = some g) (hnum : g.lastSeq + 1 ≤ gen0Limit)
    (hroom : 0 < s.freeSlots) (target : BitVec 8) (nonce : BitVec 128) : sendOffer t target nonce s
      = some (enqueue t (offerFrame s t g target nonce)
          (s.setTun t { s.tun t with gen0 := some { g with lastSeq := g.lastSeq + 1 } })) := by
  have hsend : ¬ (gen0Limit < g.lastSeq + 1 ∨ s.freeSlots = 0) := by omega
  simp only [sendOffer, hg, if_neg hsend, State.modTun, Tunnel.spendGen0, Option.map_some]

theorem sendOffer_of_full {t : TunnelId} {s : State} {g : Gen0} (hg : (s.tun t).gen0 = some g) (hfull : s.freeSlots = 0)
    (target : BitVec 8) (nonce : BitVec 128) : sendOffer t target nonce s = none := by
  simp only [sendOffer, hg, if_pos (Or.inr hfull)]

/-- The state once an attempt has drawn its nonce (R64). -/
def drawn (s : State) : State := { s with draws := s.draws + 1 }

@[simp] theorem drawn_tun (s : State) (t : TunnelId) : (drawn s).tun t = s.tun t := rfl
@[simp] theorem drawn_freeSlots (s : State) : (drawn s).freeSlots = s.freeSlots := rfl
@[simp] theorem drawn_after (s : State) (d : Nat) : (drawn s).after d = s.after d := rfl
@[simp] theorem drawn_prof (s : State) (t : TunnelId) : (drawn s).prof t = s.prof t := rfl

/-- The entry of a tunnel that holds the nonce of an attempt, the rest of it being `x` (R64). -/
def heldNonce (s : State) (t : TunnelId) (x : Tunnel) : Tunnel :=
  { x with
    attempts := x.attempts + 1
    nonce := some { value := Config.drawnNonce s.draws, expiry := s.after (s.prof t).response } }

/-- The OFFER of an attempt (R64). -/
def attemptOffer (s : State) (t : TunnelId) (g : Gen0) (target : BitVec 8) : CarrierFrame :=
  offerFrame s t g target (Config.drawnNonce s.draws)

/-- The entry with the next number of generation 0 assigned. -/
def gen0Spent (g : Gen0) (x : Tunnel) : Tunnel := { x with gen0 := some { g with lastSeq := g.lastSeq + 1 } }

theorem attempt_eq (t : TunnelId) (target : BitVec 8) (s : State) : attempt t target s =
    match sendOffer t target (Config.drawnNonce s.draws) (drawn s) with
    | none => holdNonce t (Config.drawnNonce s.draws) (drawn s)
    | some s2 =>
      if (s2.tun t).gen0.any (fun g => g.lastSeq == gen0Limit) then exhaustSecret t s2
      else holdNonce t (Config.drawnNonce s.draws) s2 := by
  unfold attempt drawn
  rfl

theorem attempt_of_unsent {t : TunnelId} {target : BitVec 8} {s : State}
    (h : sendOffer t target (Config.drawnNonce s.draws) (drawn s) = none) :
    attempt t target s = (drawn s).setTun t (heldNonce s t (s.tun t)) := by
  rw [attempt_eq, h]
  rfl

theorem attempt_of_full {t : TunnelId} {target : BitVec 8} {s : State} {g : Gen0} (hg : (s.tun t).gen0 = some g)
    (hfull : s.freeSlots = 0) : attempt t target s = (drawn s).setTun t (heldNonce s t (s.tun t)) :=
  attempt_of_unsent (sendOffer_of_full (s := drawn s) hg hfull _ _)

theorem holdNonce_enqueue (t : TunnelId) (f : CarrierFrame) (nonce : BitVec 128) (s : State) :
    holdNonce t nonce (enqueue t f s) = enqueue t f (holdNonce t nonce s) := by
  have hprof : (enqueue t f s).prof t = s.prof t := actsAt_prof (enqueue_acts t f s) (by rw [enqueue_tun])
  rw [holdNonce, State.modTun, hprof, actsAt_after (enqueue_acts t f s), enqueue_tun]
  exact Eq.symm (enqueue_setTun_comm t f s { s.tun t with
    attempts := (s.tun t).attempts + 1
    nonce := some { value := nonce, expiry := s.after (s.prof t).response } } rfl rfl)

theorem holdNonce_gen0Spent (s : State) (t : TunnelId) (g : Gen0) :
    holdNonce t (Config.drawnNonce s.draws) ((drawn s).setTun t (gen0Spent g (s.tun t)))
      = (drawn s).setTun t (gen0Spent g (heldNonce s t (s.tun t))) := by
  have hprof : ((drawn s).setTun t (gen0Spent g (s.tun t))).prof t = s.prof t := 
    State.prof_setTun (drawn s) t (gen0Spent g (s.tun t)) rfl t
  rw [holdNonce, State.modTun, State.setTun_setTun, hprof, State.tun_setTun_self]
  rfl

theorem attempt_of_sent {t : TunnelId} {target : BitVec 8} {s : State} {g : Gen0} (hg : (s.tun t).gen0 = some g)
    (hnum : g.lastSeq + 1 < gen0Limit) (hroom : 0 < s.freeSlots) :
    attempt t target s = enqueue t (attemptOffer s t g target)
      ((drawn s).setTun t (gen0Spent g (heldNonce s t (s.tun t)))) := by
  have hlast : (g.lastSeq + 1 == gen0Limit) = false := by simpa using hnum.ne
  rw [attempt_eq, sendOffer_of_room (s := drawn s) hg hnum.le hroom]
  simp only [enqueue_tun, State.tun_setTun_self, Option.any_some, hlast, Bool.false_eq_true, if_false, holdNonce_enqueue]
  rw [← holdNonce_gen0Spent]
  rfl

/-- The entry of a tunnel whose keying has ended with generation 0 (R36). -/
def exhaustedTunnel (x : Tunnel) : Tunnel :=
  { x.dropGenerations with
    secret := none, gen0 := none, keyState := .noSecret, egress := [], health := x.health.toOff }

/-- The tunnel, the waiting list and the derivation unit when generation 0 is exhausted, before the record (R36). -/
def endKeying (t : TunnelId) (s : State) : State :=
  (flush t (abortDerivation t s)).setTun t (exhaustedTunnel (s.tun t))

theorem exhaustSecret_eq (t : TunnelId) (s : State) :
    exhaustSecret t s = post .secretExhausted (some t.val) 4294967295 (endKeying t s) := by
  simp only [exhaustSecret, postTunnel, endKeying, State.modTun, flush_tun]
  rfl

theorem attempt_of_last {t : TunnelId} {target : BitVec 8} {s : State} {g : Gen0} (hg : (s.tun t).gen0 = some g)
    (hnum : g.lastSeq + 1 = gen0Limit) (hroom : 0 < s.freeSlots) :
    attempt t target s = post .secretExhausted (some t.val) 4294967295
      (endKeying t (enqueue t (attemptOffer s t g target)
        ((drawn s).setTun t (gen0Spent g (s.tun t))))) := by
  have hlast : (g.lastSeq + 1 == gen0Limit) = true := by simpa using hnum
  rw [attempt_eq, sendOffer_of_room (s := drawn s) hg hnum.le hroom]
  simp only [enqueue_tun, State.tun_setTun_self, Option.any_some, hlast, if_true, exhaustSecret_eq]
  rfl

theorem endKeying_tun (t : TunnelId) (s : State) : (endKeying t s).tun t = exhaustedTunnel (s.tun t) :=
  State.tun_setTun_self _ _ _

theorem endKeying_acts (t : TunnelId) (s : State) : ActsAt t s (endKeying t s) :=
  ((abortDerivation_acts t s).trans (flush_acts t _)).trans (setTun_acts t _ _)

theorem endKeying_kduQueue (t : TunnelId) (s : State) : ∀ e ∈ (endKeying t s).kduQueue, e.tunnel ≠ t :=
  (abortDerivation_clear t s).1

theorem endKeying_frame (t : TunnelId) (r : State) (tunnels : Vector Tunnel 1024) (waiting : Vector (List TunnelId) 4)
    (queue : List KduEntry) (flight : Option KduFlight) :
    { endKeying t r with tunnels := tunnels, waiting := waiting, kduQueue := queue, kduFlight := flight }
      = { r with tunnels := tunnels, waiting := waiting, kduQueue := queue, kduFlight := flight } := by
  unfold endKeying flush abortDerivation
  rfl

theorem enqueue_frame_keying (t : TunnelId) (f : CarrierFrame) (r : State) (tunnels : Vector Tunnel 1024)
    (waiting : Vector (List TunnelId) 4) (queue : List KduEntry) (flight : Option KduFlight) :
    { enqueue t f r with tunnels := tunnels, waiting := waiting, kduQueue := queue, kduFlight := flight }
      = { r with tunnels := tunnels, waiting := waiting, kduQueue := queue, kduFlight := flight } := by
  rw [enqueue_eq]
  split <;> rfl

/-- Settles O36: the three outcomes of an attempt. -/
theorem attemptMakesAnOffer : Obligations.AttemptMakesAnOffer := by
  intro t target g s hg x nonce q held
  refine ⟨fun hnum hroom => ?_, fun hnum hfull => attempt_of_full hg hfull, fun hnum hroom => ?_⟩
  · rw [attempt_of_sent hg hnum hroom, enqueue_eq]
    simp only [State.tun_setTun_self, State.setTun_setTun]
    rfl
  · refine ⟨_, attempt_of_last hg hnum hroom, ?_, ?_, endKeying_kduQueue t _, ?_⟩
    · rw [endKeying_tun, enqueue_tun, State.tun_setTun_self]
      rfl
    · intro t' hne
      rw [(endKeying_acts t _).others t' hne, enqueue_tun_ne _ _ _ hne, State.tun_setTun_ne _ _ hne]
      rfl
    · rw [endKeying_frame, enqueue_frame_keying]
      rfl

end Sys2Proof.Proofs
end

section

namespace Sys2Proof.Proofs

open Sys2Proof Sys2Proof.Machine

/-! ### The dormancy timer and the wake (R140, R145) -/

/-- The entry with its dormancy timer running until `e` (R140). -/
def restArmed (e : Tick) (x : Tunnel) : Tunnel := { x with dormancyExpiry := some e, dormancyDue := false }

/-- The tick at which a dormancy timer that starts now runs out (R140). -/
def dormancyTick (s : State) (t : TunnelId) : Tick := s.after ((s.prof t).dormancyTimeout * 100)

theorem armDormancy_eq (t : TunnelId) (s : State) : armDormancy t s = s.setTun t (restArmed (dormancyTick s t) (s.tun t)) := rfl

theorem dataActivity_eq (t : TunnelId) (s : State) : dataActivity t s =
    if (s.tun t).shop = .closed then s.setTun t (restArmed (dormancyTick s t) (s.tun t)) else s := rfl

/-- A replaced entry with the same profile leaves the dormancy timeout of its tunnel. -/
theorem dormancyTick_setTun {s : State} {t : TunnelId} {x : Tunnel} (h : x.cfg.profile = (s.tun t).cfg.profile) :
    dormancyTick (s.setTun t x) t = dormancyTick s t := by
  rw [dormancyTick, State.prof_setTun _ _ _ h, State.after_setTun, dormancyTick]

theorem dormancyTick_acts {t : TunnelId} {s r : State} (h : ActsAt t s r)
    (hprofile : (r.tun t).cfg.profile = (s.tun t).cfg.profile) : dormancyTick r t = dormancyTick s t := by
  rw [dormancyTick, actsAt_prof h hprofile, actsAt_after h, dormancyTick]

/-! ### What an attempt makes of its tunnel (R36, R64) -/

/-- What an attempt makes of the entry `x`: the nonce is held, with an OFFER queued or not, or the tunnel's keying ends. -/
inductive Attempted (x : Tunnel) : Tunnel → Prop where
  | unsent (n : OfferNonce) : Attempted x { x with attempts := x.attempts + 1, nonce := some n }
  | offered (n : OfferNonce) (g : Gen0) (f : CarrierFrame) (hg : x.gen0 = some g) (hnum : g.lastSeq + 1 < 4294967295)
      (hcontrol : f.isData = false) :
      Attempted x { x with
        attempts := x.attempts + 1, nonce := some n, gen0 := some { g with lastSeq := g.lastSeq + 1 }
        egress := x.egress ++ [f] }
  | exhausted : Attempted x (exhaustedTunnel x)

theorem outerFrame_isData (dst src : Mac) (kind : BitVec 4) (generation : BitVec 8) (t : TunnelId) (sequence : BitVec 32)
    (epoch : BitVec 16) (key : BitVec 256) (salt : BitVec 32) (body : List Byte) :
    (outerFrame dst src kind generation t sequence epoch key salt body).isData = (kind == kindData) := by
  have hkind : ∀ k : BitVec 4, ((1 : BitVec 4) ++ k).extractLsb' 0 4 = k := by decide
  exact congrArg (· == kindData) (hkind kind)

theorem offerFrame_isData (s : State) (t : TunnelId) (g : Gen0) (target : BitVec 8) (nonce : BitVec 128) :
    (offerFrame s t g target nonce).isData = false := outerFrame_isData _ _ _ _ _ _ _ _ _ _

theorem currentFrame_isData (s : State) (t : TunnelId) (c : CurGen) (kind : BitVec 4) (body : List Byte) :
    (currentFrame s t c kind body).isData = (kind == kindData) := outerFrame_isData _ _ _ _ _ _ _ _ _ _

theorem attempt_attempted (t : TunnelId) (target : BitVec 8) (s : State) :
    Attempted (s.tun t) ((attempt t target s).tun t) := by
  cases hsend : sendOffer t target (Config.drawnNonce s.draws) (drawn s) with
  | none =>
    rw [attempt_of_unsent hsend, State.tun_setTun_self]
    exact .unsent _
  | some s2 =>
    obtain ⟨g, hg, hnum, hroom, -⟩ := sendOffer_some hsend
    rcases hnum.lt_or_eq with hless | hlast
    · rw [attempt_of_sent (s := s) hg hless (Nat.pos_of_ne_zero hroom), enqueue_tun, State.tun_setTun_self]
      exact .offered _ g _ hg hless (offerFrame_isData _ _ _ _ _)
    · rw [attempt_of_last (s := s) hg hlast (Nat.pos_of_ne_zero hroom), post_tun, endKeying_tun, enqueue_tun, State.tun_setTun_self]
      exact .exhausted

theorem Attempted.kept {x y : Tunnel} (h : Attempted x y) : y.cfg = x.cfg ∧ y.shop = x.shop ∧ y.dormant = x.dormant := by
  cases h <;> exact ⟨rfl, rfl, rfl⟩

theorem attempt_cfg (t : TunnelId) (target : BitVec 8) (s : State) : ((attempt t target s).tun t).cfg = (s.tun t).cfg :=
  (attempt_attempted t target s).kept.1

theorem attempt_shop (t : TunnelId) (target : BitVec 8) (s : State) : ((attempt t target s).tun t).shop = (s.tun t).shop :=
  (attempt_attempted t target s).kept.2.1

theorem attempt_dormant (t : TunnelId) (target : BitVec 8) (s : State) :
    ((attempt t target s).tun t).dormant = (s.tun t).dormant :=
  (attempt_attempted t target s).kept.2.2

/-! ### The wake (R145) -/

/-- The timer of a woken tunnel: it runs anew where the shop is Closed (R145). -/
def wokenTimer (e : Tick) (x : Tunnel) : Tunnel := if x.shop = .closed then restArmed e x else x

theorem wakeTimer_eq (t : TunnelId) (s : State) :
    (if (s.tun t).shop = .closed then armDormancy t s else s) = s.setTun t (wokenTimer (dormancyTick s t) (s.tun t)) := by
  unfold wokenTimer
  split
  · rfl
  · rw [State.setTun_tun]

/-- The timer of a woken tunnel whose entry has been replaced by `x`. -/
theorem wakeTimer_setTun (t : TunnelId) (s : State) (x : Tunnel) (h : x.cfg.profile = (s.tun t).cfg.profile) :
    (if ((s.setTun t x).tun t).shop = .closed then armDormancy t (s.setTun t x) else s.setTun t x)
      = s.setTun t (wokenTimer (dormancyTick s t) x) := by
  rw [wakeTimer_eq, State.setTun_setTun, State.tun_setTun_self, dormancyTick_setTun h]

/-- The entry of a tunnel that is awake, the rest of it being `x`. -/
def awake (x : Tunnel) : Tunnel := { x with dormant := false }

/-- The entry of a tunnel woken with its keys kept, but for the timer (R145). -/
def wokenKeyed (now : Tick) (x : Tunnel) : Tunnel :=
  { awake x with renewBefore := true, health := { x.health.toSeeding with expiry := some now } }

/-- The entry of an enabled UNKEYED tunnel as its first attempt begins (R65). -/
def keyingStart (x : Tunnel) : Tunnel := { x with holdoff := none, attempts := 0, keyState := .offering 1 }

theorem wake_eq {t : TunnelId} {s : State} (hdormant : (s.tun t).dormant = true) : wake t s =
    let s2 := if (s.tun t).cur.isSome then s.setTun t (wokenKeyed s.tick (s.tun t))
      else startInitialKeying t (s.setTun t (awake (s.tun t)))
    if (s2.tun t).shop = .closed then armDormancy t s2 else s2 := by
  simp only [wake, if_pos hdormant, State.modTun, State.tun_setTun_self, State.setTun_setTun]
  rfl

theorem wake_of_keyed {t : TunnelId} {s : State} (hdormant : (s.tun t).dormant = true) (hcur : (s.tun t).cur ≠ none) :
    wake t s = s.setTun t (wokenTimer (dormancyTick s t) (wokenKeyed s.tick (s.tun t))) := by
  rw [wake_eq hdormant, if_pos (Option.isSome_iff_ne_none.mpr hcur)]
  exact wakeTimer_setTun t s (wokenKeyed s.tick (s.tun t)) rfl

theorem wake_of_unkeyed {t : TunnelId} {s : State} (hdormant : (s.tun t).dormant = true) (hcur : (s.tun t).cur = none)
    (henabled : (s.tun t).cfg.enabled = true) (hkey : (s.tun t).keyState = .unkeyed) :
    wake t s = (attempt t 1 (s.setTun t (keyingStart (awake (s.tun t))))).setTun t (wokenTimer (dormancyTick s t)
      ((attempt t 1 (s.setTun t (keyingStart (awake (s.tun t))))).tun t)) := by
  have hstart : startInitialKeying t (s.setTun t (awake (s.tun t)))
      = attempt t 1 (s.setTun t (keyingStart (awake (s.tun t)))) := by
    rw [startInitialKeying_eq_attempt (by simpa [awake] using henabled) (by simpa [awake] using hkey), State.setTun_setTun,
      State.tun_setTun_self]
    rfl
  have htick : dormancyTick (attempt t 1 (s.setTun t (keyingStart (awake (s.tun t))))) t = dormancyTick s t := by
    rw [dormancyTick_acts (attempt_acts t 1 _) (by rw [attempt_cfg])]
    exact dormancyTick_setTun (x := keyingStart (awake (s.tun t))) rfl
  rw [wake_eq hdormant, if_neg (show ¬ (s.tun t).cur.isSome = true by simp [hcur]), hstart, wakeTimer_eq, htick]

theorem wake_of_idle {t : TunnelId} {s : State} (hdormant : (s.tun t).dormant = true) (hcur : (s.tun t).cur = none)
    (hkey : ¬ ((s.tun t).cfg.enabled = true ∧ (s.tun t).keyState = .unkeyed)) :
    wake t s = s.setTun t (wokenTimer (dormancyTick s t) (awake (s.tun t))) := by
  rw [wake_eq hdormant, if_neg (show ¬ (s.tun t).cur.isSome = true by simp [hcur]), startInitialKeying_idle t _ (by simpa [awake] using hkey)]
  exact wakeTimer_setTun t s (awake (s.tun t)) rfl

/-! ### A valid frame (R44 to R50) -/

theorem retirePrevious_eq (x : Tunnel) (m : Match) : x.retirePrevious m = { x with
    prev := if m = .current then none else x.prev
    grace := if m = .current ∧ x.prev ≠ none then none else x.grace } := by
  by_cases hm : m = .current
  · cases hp : x.prev with
    | none => cases x; simp_all [Tunnel.retirePrevious]
    | some p => simp [Tunnel.retirePrevious, hm, hp]
  · simp [Tunnel.retirePrevious, hm]

theorem exec_inbound_of_valid {u : UplinkId} {d : Delivered} {rest : List Delivered} {s : State} {t : TunnelId} {h : TunnelHeader}
    {m : Match} {k : KeyContext} {body : List Byte} (hlive : s.rstLow = false) (hhead : (s.uplink u).delivered = d :: rest)
    (hvalid : ValidAt s d t h m k body) : exec (.inboundTunnelFrame u) s = .next
      (takeValid t h m (k.window.accepted h.sequence.toNat) body d.arrival
        (s.setUplink u { s.uplink u with delivered := rest })) := by
  obtain ⟨htype, hheader, ⟨henabled, hsecret⟩, hmatch, hopens, hfresh⟩ := hvalid
  have hactive : ¬ ((s.tun t).cfg.enabled = false ∨ (s.tun t).keyState = .noSecret) := by simp [henabled, hsecret]
  change Host.Outcome.next (s.live _) = _
  rw [State.live_high hlive]
  simp only [hhead, takeDelivered, if_pos htype, hheader, takeAtTunnel, State.modUplink, State.tun_setUplink, if_neg hactive,
    hmatch, hopens, hfresh]

theorem takeValid_of_awake {t : TunnelId} {s : State} (hawake : (s.tun t).dormant = false) (h : TunnelHeader) (m : Match)
    (w : Window) (body : List Byte) (arrival : BitVec 32) : takeValid t h m w body arrival s
      = settle t (dispatch t h m body arrival (s.setTun t (((s.tun t).setWindow m w).retirePrevious m))) := by
  have hdormant : ((s.tun t).setWindow m w).dormant = false := by cases m <;> exact hawake
  simp only [takeValid, State.modTun]
  rw [wake_awake t _ (by rw [State.tun_setTun_self, hdormant]), State.setTun_setTun, State.tun_setTun_self]

theorem exec_inbound_of_awake {u : UplinkId} {d : Delivered} {rest : List Delivered} {s : State} {t : TunnelId} {h : TunnelHeader}
    {m : Match} {k : KeyContext} {body : List Byte} (hlive : s.rstLow = false) (hhead : (s.uplink u).delivered = d :: rest)
    (hvalid : ValidAt s d t h m k body) (hawake : (s.tun t).dormant = false) :
    exec (.inboundTunnelFrame u) s = .next (settle t (dispatch t h m body d.arrival
      ((s.setUplink u { s.uplink u with delivered := rest }).setTun t
        (((s.tun t).setWindow m (k.window.accepted h.sequence.toNat)).retirePrevious m)))) :=
  (exec_inbound_of_valid hlive hhead hvalid).trans
    (congrArg _ (takeValid_of_awake (s := s.setUplink u { s.uplink u with delivered := rest }) hawake h m _ body d.arrival))

theorem wake_dormant (t : TunnelId) (s : State) : ((wake t s).tun t).dormant = false := by
  by_cases hdormant : (s.tun t).dormant = true
  · have hrest (e : Tick) (x : Tunnel) : (wokenTimer e x).dormant = x.dormant := by unfold wokenTimer; split <;> rfl
    by_cases hcur : (s.tun t).cur = none
    · by_cases hkey : (s.tun t).cfg.enabled = true ∧ (s.tun t).keyState = .unkeyed
      · rw [wake_of_unkeyed hdormant hcur hkey.1 hkey.2, State.tun_setTun_self, hrest, attempt_dormant, State.tun_setTun_self]
        rfl
      · rw [wake_of_idle hdormant hcur hkey, State.tun_setTun_self, hrest]
        rfl
    · rw [wake_of_keyed hdormant hcur, State.tun_setTun_self, hrest]
      rfl
  · rw [wake_awake t s (by simpa using hdormant)]
    simpa using hdormant

theorem sendCurrent_of_room {t : TunnelId} {s : State} {c : CurGen} (hcur : (s.tun t).cur = some c)
    (hnum : c.lastSeq + 1 ≤ (s.prof t).frameLimit) (hroom : 0 < s.freeSlots) (kind : BitVec 4) (body : List Byte) :
    sendCurrent t kind body s = some (enqueue t (currentFrame s t c kind body)
      (s.setTun t { s.tun t with cur := some { c with lastSeq := c.lastSeq + 1 } })) := by
  have hsend : ¬ (c.spent (s.prof t) = true ∨ s.freeSlots = 0) := by
    simp only [CurGen.spent, decide_eq_true_eq]
    omega
  simp only [sendCurrent, hcur, if_neg hsend, State.modTun, Tunnel.spendCurrent, Option.map_some]

theorem sendCurrent_of_unable {t : TunnelId} {s : State} {c : CurGen} (hcur : (s.tun t).cur = some c)
    (h : (s.prof t).frameLimit < c.lastSeq + 1 ∨ s.freeSlots = 0) (kind : BitVec 4) (body : List Byte) :
    sendCurrent t kind body s = none := by
  have hsend : c.spent (s.prof t) = true ∨ s.freeSlots = 0 := by simpa only [CurGen.spent, decide_eq_true_eq] using h
  simp only [sendCurrent, hcur, if_pos hsend]

theorem sendCurrent_of_none {t : TunnelId} {s : State} (hcur : (s.tun t).cur = none) (kind : BitVec 4) (body : List Byte) :
    sendCurrent t kind body s = none := by
  simp only [sendCurrent, hcur]

/-- Settles O35: the dispatch by kind, for an awake and for a dormant tunnel, and the wake by its four cases. -/
theorem validFrameIsDispatched : Obligations.ValidFrameIsDispatched := by
  refine ⟨?_, ?_, ?_, ?_, ?_⟩
  · intro u d rest s t h m k body hlive hhead hvalid hawake hkind q x y
    rw [exec_inbound_of_awake hlive hhead hvalid hawake, retirePrevious_eq, dispatch, if_pos hkind, takeData,
      State.modTunCounters, State.modTun, State.setTun_setTun, State.tun_setTun_self]
  · intro u d rest s t h m k body hlive hhead hvalid hawake x y q
    have hexec : exec (.inboundTunnelFrame u) s = .next (settle t (dispatch t h m body d.arrival q)) := by
      rw [exec_inbound_of_awake hlive hhead hvalid hawake, retirePrevious_eq]
    rw [hexec]
    refine ⟨fun hkind => ?_, fun hkind => ?_, fun hkind hm => ?_, fun hkind hm => ?_, fun hkind hm => ?_⟩
    · simp [dispatch, hkind, kindData, kindProbe, answerProbe]
    · simp [dispatch, hkind, kindData, kindProbe, kindEcho]
    · simp [dispatch, hkind, hm, kindData, kindProbe, kindEcho, kindAccept]
    · simp [dispatch, hkind, hm, kindData, kindProbe, kindEcho, kindAccept, kindAsk]
    · have hstale : dispatch t h m body d.arrival q = staleControl t q := by
        rcases hkind with hkind | hkind
        · simp [dispatch, hkind, hm, kindData, kindProbe, kindEcho, kindAccept]
        · simp [dispatch, hkind, hm, kindData, kindProbe, kindEcho, kindAsk]
      rw [hstale, staleControl, State.modTunCounters, State.modTun, State.tun_setTun_self]
  · intro u d rest s t h m k body hlive hhead hvalid hdormant q w
    exact ⟨exec_inbound_of_valid hlive hhead hvalid, wake_dormant t _⟩
  · intro t h m body arrival s x counted
    refine ⟨rfl, rfl, rfl, ?_, rfl, fun hcur => sendCurrent_of_none hcur _ _, fun c hcur => ⟨fun hnum hroom =>
      sendCurrent_of_room hcur hnum hroom _ _, fun h => sendCurrent_of_unable hcur h _ _⟩⟩
    simp only [Tunnel.retirePrevious, Option.isSome_iff_ne_none]
  · intro t s x rest
    have hrest (y : Tunnel) (hshop : y.shop = x.shop) : wokenTimer (dormancyTick s t) y = rest y := by
      by_cases hclosed : x.shop = .closed
      · simp only [wokenTimer, if_pos (hshop.trans hclosed), rest, if_pos hclosed]
        rfl
      · simp only [wokenTimer, if_neg (fun h => hclosed (hshop.symm.trans h)), rest, if_neg hclosed]
    refine ⟨wake_awake t s, fun hdormant hcur => ?_, fun hdormant hcur henabled hkey => ?_, fun hdormant hcur hkey => ?_⟩
    · exact (wake_of_keyed hdormant hcur).trans (congrArg (s.setTun t) (hrest (wokenKeyed s.tick x) rfl))
    · intro r
      rw [wake_of_unkeyed hdormant hcur henabled hkey, hrest _ (by rw [attempt_shop, State.tun_setTun_self]; rfl)]
      rfl
    · exact (wake_of_idle hdormant hcur fun h => hkey h.2).trans (congrArg (s.setTun t) (hrest (awake x) rfl))

end Sys2Proof.Proofs
end

section

namespace Sys2Proof.Proofs

open Sys2Proof Sys2Proof.Machine

/-! ### What exchanges and wakes leave alone -/

theorem endKeying_lfsr (t : TunnelId) (s : State) : (endKeying t s).lfsr = s.lfsr := by
  unfold endKeying flush abortDerivation
  rfl

theorem attempt_lfsr (t : TunnelId) (target : BitVec 8) (s : State) : (attempt t target s).lfsr = s.lfsr := by
  have henqueue (f : CarrierFrame) (r : State) : (enqueue t f r).lfsr = r.lfsr := (congrArg State.lfsr (enqueue_frame t f r) :)
  cases hsend : sendOffer t target (Config.drawnNonce s.draws) (drawn s) with
  | none =>
    rw [attempt_of_unsent hsend]
    rfl
  | some s2 =>
    obtain ⟨g, hg, hnum, hroom, -⟩ := sendOffer_some hsend
    rcases hnum.lt_or_eq with hless | hlast
    · rw [attempt_of_sent (s := s) hg hless (Nat.pos_of_ne_zero hroom), henqueue]
      rfl
    · rw [attempt_of_last (s := s) hg hlast (Nat.pos_of_ne_zero hroom), post_lfsr, endKeying_lfsr, henqueue]
      rfl

theorem wake_cfg (t : TunnelId) (s : State) : ((wake t s).tun t).cfg = (s.tun t).cfg := by
  have hrest (e : Tick) (x : Tunnel) : (wokenTimer e x).cfg = x.cfg := by unfold wokenTimer; split <;> rfl
  by_cases hdormant : (s.tun t).dormant = true
  · by_cases hcur : (s.tun t).cur = none
    · by_cases hkey : (s.tun t).cfg.enabled = true ∧ (s.tun t).keyState = .unkeyed
      · rw [wake_of_unkeyed hdormant hcur hkey.1 hkey.2, State.tun_setTun_self, hrest, attempt_cfg, State.tun_setTun_self]
        rfl
      · rw [wake_of_idle hdormant hcur hkey, State.tun_setTun_self, hrest]
        rfl
    · rw [wake_of_keyed hdormant hcur, State.tun_setTun_self, hrest]
      rfl
  · rw [wake_awake t s (by simpa using hdormant)]

theorem wake_shop (t : TunnelId) (s : State) : ((wake t s).tun t).shop = (s.tun t).shop := by
  have hrest (e : Tick) (x : Tunnel) : (wokenTimer e x).shop = x.shop := by unfold wokenTimer; split <;> rfl
  by_cases hdormant : (s.tun t).dormant = true
  · by_cases hcur : (s.tun t).cur = none
    · by_cases hkey : (s.tun t).cfg.enabled = true ∧ (s.tun t).keyState = .unkeyed
      · rw [wake_of_unkeyed hdormant hcur hkey.1 hkey.2, State.tun_setTun_self, hrest, attempt_shop, State.tun_setTun_self]
        rfl
      · rw [wake_of_idle hdormant hcur hkey, State.tun_setTun_self, hrest]
        rfl
    · rw [wake_of_keyed hdormant hcur, State.tun_setTun_self, hrest]
      rfl
  · rw [wake_awake t s (by simpa using hdormant)]

theorem wake_lfsr (t : TunnelId) (s : State) : (wake t s).lfsr = s.lfsr := by
  by_cases hdormant : (s.tun t).dormant = true
  · by_cases hcur : (s.tun t).cur = none
    · by_cases hkey : (s.tun t).cfg.enabled = true ∧ (s.tun t).keyState = .unkeyed
      · rw [wake_of_unkeyed hdormant hcur hkey.1 hkey.2]
        exact attempt_lfsr t 1 _
      · rw [wake_of_idle hdormant hcur hkey]
        rfl
    · rw [wake_of_keyed hdormant hcur]
      rfl
  · rw [wake_awake t s (by simpa using hdormant)]

theorem actsAt_jitter {t : TunnelId} {s r : State} (h : ActsAt t s r) :
    r.jitterBase = s.jitterBase ∧ r.jitterRange = s.jitterRange :=
  ⟨(congrArg State.jitterBase h.frame :), (congrArg State.jitterRange h.frame :)⟩

/-! ### The probe schedule and the closing test at a change of shop state (R89, R112, R139) -/

/-- The tick at which the probe expiry of a tunnel under `shop` runs out (R112). -/
def probeTick (s : State) (t : TunnelId) (shop : ShopState) : Tick := s.after (probeInterval (s.prof t) shop)

/-- The entry with its probe expiry at `e` (R112). -/
def probeArmed (e : Tick) (x : Tunnel) : Tunnel := { x with health := { x.health with expiry := some e } }

theorem armProbe_eq (t : TunnelId) (s : State) :
    armProbe t s = s.setTun t (probeArmed (probeTick s t (s.tun t).shop) (s.tun t)) := rfl

theorem probeTick_acts {t : TunnelId} {s r : State} (h : ActsAt t s r) (hcfg : (r.tun t).cfg = (s.tun t).cfg)
    (shop : ShopState) : probeTick r t shop = probeTick s t shop := by
  rw [probeTick, actsAt_prof h (by rw [hcfg]), actsAt_after h, probeTick]

/-- The current generation of an awake and enabled tunnel in KEYED without a hold-off is worn by more than half (R88, R89). -/
def Worn (p : Profile) (y : Tunnel) : Prop :=
  y.cfg.enabled = true ∧ y.dormant = false ∧ y.keyState = .keyed ∧ y.holdoff = none
    ∧ ∃ c, y.cur = some c ∧ (p.frameLimit < 2 * c.lastSeq ∨ p.ageLimit < 2 * c.age)

theorem dueTestable_iff (y : Tunnel) :
    y.dueTestable = true ↔ y.cfg.enabled = true ∧ y.dormant = false ∧ y.keyState = .keyed ∧ y.holdoff = none := by
  simp [Tunnel.dueTestable, and_assoc]

theorem closingTest_of_worn {t : TunnelId} {s : State} (h : Worn (s.prof t) (s.tun t)) :
    closingTest t s = enterPending t s := by
  obtain ⟨henabled, hawake, hkeyed, hholdoff, c, hcur, hworn⟩ := h
  simp only [closingTest, hcur]
  exact if_pos ⟨(dueTestable_iff _).mpr ⟨henabled, hawake, hkeyed, hholdoff⟩, hworn⟩

theorem closingTest_of_not_worn {t : TunnelId} {s : State} (h : ¬ Worn (s.prof t) (s.tun t)) : closingTest t s = s := by
  cases hcur : (s.tun t).cur with
  | none => simp only [closingTest, hcur]
  | some c =>
    simp only [closingTest, hcur]
    refine if_neg fun hdue => h ?_
    obtain ⟨henabled, hawake, hkeyed, hholdoff⟩ := (dueTestable_iff _).mp hdue.1
    exact ⟨henabled, hawake, hkeyed, hholdoff, c, hcur, hdue.2⟩

/-- The entry of a tunnel in PENDING with its jitter delay up at `e` (R91). -/
def pendingUntil (e : Tick) (x : Tunnel) : Tunnel := { x with jitter := some e, keyState := .pending }

/-- The state once the generator has stepped (R90). -/
def stepped (s : State) : State := { s with lfsr := lfsrStep s.lfsr }

/-- The tick at which a delay drawn now runs out (R91). -/
def jitterTick (s : State) : Tick := s.after ((s.jitterBase + (lfsrStep s.lfsr).toNat % s.jitterRange) % 65536)

theorem enterPending_eq (t : TunnelId) (s : State) :
    enterPending t s = (stepped s).setTun t (pendingUntil (jitterTick s) (s.tun t)) := rfl

/-- The entry without a dormancy timer (R140). -/
def restCleared (x : Tunnel) : Tunnel := { x with dormancyExpiry := none, dormancyDue := false }

theorem dormancyShopChange_of_open {t : TunnelId} {new : ShopState} (hnew : new ≠ .closed) (s : State) :
    dormancyShopChange t new s = s.setTun t (restCleared (s.tun t)) := if_neg hnew

theorem shopChange_end_of_worn {t : TunnelId} {new : ShopState} {s : State} (hnew : new ≠ .closed) (hclosing : new = .closing)
    (hworn : Worn (s.prof t) (s.tun t)) : dormancyShopChange t new (if new = .closing then closingTest t s else s)
      = (stepped s).setTun t (pendingUntil (jitterTick s) (restCleared (s.tun t))) := by
  rw [dormancyShopChange_of_open hnew, if_pos hclosing, closingTest_of_worn hworn, enterPending_eq, State.setTun_setTun,
    State.tun_setTun_self]
  rfl

theorem shopChange_end_of_unworn {t : TunnelId} {new : ShopState} {s : State} (hnew : new ≠ .closed)
    (h : ¬ (new = .closing ∧ Worn (s.prof t) (s.tun t))) :
    dormancyShopChange t new (if new = .closing then closingTest t s else s) = s.setTun t (restCleared (s.tun t)) := by
  rw [dormancyShopChange_of_open hnew]
  by_cases hclosing : new = .closing
  · rw [if_pos hclosing, closingTest_of_not_worn fun hworn => h ⟨hclosing, hworn⟩]
  · rw [if_neg hclosing]

/-! ### A change of shop state (R112, R123, R124, R139) -/

theorem changeShop_eq (t : TunnelId) (new : ShopState) (s : State) : changeShop t new s =
    let s1 := s.setTun t { s.tun t with shop := new }
    let s2 := if (s.tun t).shop = .closed then wake t s1 else s1
    let s3 := healthShopChange t (s.tun t).shop new s2
    dormancyShopChange t new (if new = .closing then closingTest t s3 else s3) := rfl

theorem healthShopChange_of_off {t : TunnelId} {s : State} (h : (s.tun t).health.state = .off) (old new : ShopState) :
    healthShopChange t old new s = s := if_pos h

theorem healthShopChange_among_open {t : TunnelId} {old new : ShopState} (hold : old ≠ .closed) (hnew : new ≠ .closed) (s : State) :
    healthShopChange t old new s = s := by
  simp [healthShopChange, hold, hnew]

theorem healthShopChange_opening {t : TunnelId} {new : ShopState} {s : State} (hon : (s.tun t).health.state ≠ .off)
    (hnew : new ≠ .closed) : healthShopChange t .closed new s
      = s.setTun t (probeArmed (probeTick s t (s.tun t).shop) (s.tun t)) := by
  simp only [healthShopChange, if_neg hon, hnew, true_iff, if_false]
  rfl

theorem healthShopChange_closing {t : TunnelId} {old : ShopState} {s : State} (hon : (s.tun t).health.state ≠ .off)
    (hold : old ≠ .closed) : healthShopChange t old .closed s =
      (if (s.tun t).health.state = .faultedSilent then releaseSilent t 4 (armProbe t s) else armProbe t s).modHealth t
        fun h => { h with miss := 0 } := by
  have hstate : ((armProbe t s).tun t).health.state = (s.tun t).health.state := by
    rw [armProbe_eq, State.tun_setTun_self]
    rfl
  simp only [healthShopChange, if_neg hon, hold, iff_true, if_false, if_true, hstate]

/-- The entry after a change of shop state that leaves health and keying alone. -/
def shopped (new : ShopState) (x : Tunnel) : Tunnel := { x with shop := new }

theorem changeShop_among_open {t : TunnelId} {new : ShopState} {s : State} (hold : (s.tun t).shop ≠ .closed)
    (hnew : new ≠ .closed) : changeShop t new s = dormancyShopChange t new
      (if new = .closing then closingTest t (s.setTun t (shopped new (s.tun t))) else s.setTun t (shopped new (s.tun t))) := by
  simp only [changeShop_eq, if_neg hold, healthShopChange_among_open hold hnew]
  rfl

/-- The state after the wake that a change out of Closed makes (R139). -/
def openedWake (t : TunnelId) (new : ShopState) (s : State) : State := wake t (s.setTun t (shopped new (s.tun t)))

theorem openedWake_acts (t : TunnelId) (new : ShopState) (s : State) : ActsAt t s (openedWake t new s) :=
  (setTun_acts t _ s).trans (wake_acts t _)

theorem openedWake_cfg (t : TunnelId) (new : ShopState) (s : State) : ((openedWake t new s).tun t).cfg = (s.tun t).cfg := by
  rw [openedWake, wake_cfg, State.tun_setTun_self]
  rfl

/-- The entry whose probe schedule restarts at `e`, where health is not Off (R112). -/
def probeRestarted (e : Tick) (x : Tunnel) : Tunnel := if x.health.state = .off then x else probeArmed e x

theorem probeRestarted_eq (e : Tick) (x : Tunnel) : probeRestarted e x = { x with
    health := if x.health.state = .off then x.health else { x.health with expiry := some e } } := by
  unfold probeRestarted
  split <;> rfl

theorem changeShop_opening {t : TunnelId} {new : ShopState} {s : State} (hold : (s.tun t).shop = .closed)
    (hnew : new ≠ .closed) : changeShop t new s =
      let w := openedWake t new s
      let r := w.setTun t (probeRestarted (probeTick s t .unknown) (w.tun t))
      dormancyShopChange t new (if new = .closing then closingTest t r else r) := by
  have hshop : ((openedWake t new s).tun t).shop = new := by
    rw [openedWake, wake_shop, State.tun_setTun_self]
    rfl
  have htick : probeTick (openedWake t new s) t new = probeTick s t .unknown := by
    rw [probeTick_acts (openedWake_acts t new s) (openedWake_cfg t new s)]
    simp [probeTick, probeInterval, hnew]
  have hhealth : healthShopChange t .closed new (openedWake t new s) = (openedWake t new s).setTun t
      (probeRestarted (probeTick s t .unknown) ((openedWake t new s).tun t)) := by
    unfold probeRestarted
    split
    next hoff => rw [healthShopChange_of_off hoff, State.setTun_tun]
    next hon => rw [healthShopChange_opening hon hnew, hshop, htick]
  rw [changeShop_eq, hold]
  simp only [if_true]
  rw [show wake t (s.setTun t { s.tun t with shop := new }) = openedWake t new s from rfl, hhealth]

theorem changeShop_closing {t : TunnelId} {s : State} (hold : (s.tun t).shop ≠ .closed) : changeShop t .closed s =
    let r := healthShopChange t (s.tun t).shop .closed (s.setTun t (shopped .closed (s.tun t)))
    if (r.tun t).cfg.enabled then armDormancy t r else r := by
  simp only [changeShop_eq, if_neg hold, dormancyShopChange, if_true, reduceCtorEq, if_false]
  rfl

/-- The entry with its dormancy timer armed where the tunnel is enabled (R139, R140). -/
def armedIfEnabled (e : Tick) (x : Tunnel) : Tunnel := if x.cfg.enabled = true then restArmed e x else x

/-- A change to Closed, from what the Health Monitor makes of it. -/
theorem changeShop_closing_of_health {t : TunnelId} {s r : State} (hold : (s.tun t).shop ≠ .closed)
    (hr : healthShopChange t (s.tun t).shop .closed (s.setTun t (shopped .closed (s.tun t))) = r)
    (hcfg : (r.tun t).cfg = (s.tun t).cfg) :
    changeShop t .closed s = r.setTun t (armedIfEnabled (dormancyTick s t) (r.tun t)) := by
  have hacts : ActsAt t s r := hr ▸ (setTun_acts t _ s).trans (healthShopChange_acts t _ _ _)
  rw [changeShop_closing hold, hr, ← dormancyTick_acts hacts (by rw [hcfg])]
  simp only [armedIfEnabled]
  split
  · rfl
  · rw [State.setTun_tun]

/-- The entry of a tunnel whose shop has just closed, its probe schedule restarted (R112, R139). -/
def closedEntry (s : State) (t : TunnelId) : Tunnel := probeArmed (probeTick s t .closed) (shopped .closed (s.tun t))

theorem armProbe_shopped (t : TunnelId) (s : State) :
    armProbe t (s.setTun t (shopped .closed (s.tun t))) = s.setTun t (closedEntry s t) := by
  have htick : probeTick (s.setTun t (shopped .closed (s.tun t))) t .closed = probeTick s t .closed :=
    probeTick_acts (setTun_acts t _ s) (by rw [State.tun_setTun_self]; rfl) _
  rw [armProbe_eq, State.setTun_setTun, State.tun_setTun_self]
  exact congrArg (fun e => s.setTun t (probeArmed e (shopped .closed (s.tun t)))) htick

/-- The entry with its misses forgotten (R124). -/
def missCleared (x : Tunnel) : Tunnel := { x with health := { x.health with miss := 0 } }

theorem missCleared_of_zero {x : Tunnel} (h : x.health.miss = 0) : missCleared x = x := by
  unfold missCleared
  rw [← h]

theorem Attempted.miss_zero {x y : Tunnel} (h : Attempted x y) (hzero : x.health.miss = 0) : y.health.miss = 0 := by
  cases h
  · exact hzero
  · exact hzero
  · rfl

/-- The entry of a tunnel that has entered Seeding (R119). -/
def seeded (x : Tunnel) : Tunnel := { x with health := x.health.toSeeding }

/-- The entry of a tunnel as the renewal for the generation after `c` begins (R66). -/
def renewalStart (c : CurGen) (x : Tunnel) : Tunnel :=
  { x with jitter := none, holdoff := none, attempts := 0, keyState := .offering (nextGeneration c.number) }

theorem releaseSilent_of_not_held {t : TunnelId} {s : State} (hkey : (s.tun t).keyState ≠ .held) (cause : BitVec 32) :
    releaseSilent t cause s = (post .release (some t.val) cause s).setTun t (seeded (s.tun t)) := by
  have hrelease : (postTunnel .release t cause s).modHealth t Health.toSeeding
      = (post .release (some t.val) cause s).setTun t (seeded (s.tun t)) := by
    simp only [postTunnel, State.modHealth, State.modTun, post_tun]
    rfl
  rw [releaseSilent, hrelease, silentReleased_of_not_held (by rw [State.tun_setTun_self]; exact hkey)]

theorem releaseSilent_of_held {t : TunnelId} {s : State} {c : CurGen} (hkey : (s.tun t).keyState = .held)
    (hcur : (s.tun t).cur = some c) (cause : BitVec 32) : releaseSilent t cause s = attempt t (nextGeneration c.number)
      ((post .release (some t.val) cause s).setTun t (renewalStart c (seeded (s.tun t)))) := by
  have hrelease : (postTunnel .release t cause s).modHealth t Health.toSeeding
      = (post .release (some t.val) cause s).setTun t (seeded (s.tun t)) := by
    simp only [postTunnel, State.modHealth, State.modTun, post_tun]
    rfl
  have hkey' : (((post .release (some t.val) cause s).setTun t (seeded (s.tun t))).tun t).keyState = .held := by
    rw [State.tun_setTun_self]
    exact hkey
  rw [releaseSilent, hrelease, silentReleased_of_held hkey', startRenewal_eq_attempt (c := c) (by simpa [seeded] using hcur)
    (by rw [hkey']; rfl), State.setTun_setTun, State.tun_setTun_self]
  rfl

theorem modMiss_eq (t : TunnelId) (s : State) :
    (s.modHealth t fun h => { h with miss := 0 }) = s.setTun t (missCleared (s.tun t)) := rfl

theorem closing_of_sound {t : TunnelId} {s : State} (hold : (s.tun t).shop ≠ .closed) (hon : (s.tun t).health.state ≠ .off)
    (hsound : (s.tun t).health.state ≠ .faultedSilent) :
    changeShop t .closed s = s.setTun t (armedIfEnabled (dormancyTick s t) (missCleared (closedEntry s t))) := by
  have hshopped : (s.setTun t (shopped .closed (s.tun t))).tun t = shopped .closed (s.tun t) := State.tun_setTun_self _ _ _
  rw [changeShop_closing_of_health hold (healthShopChange_closing (by rw [hshopped]; exact hon) hold)]
  · rw [hshopped, if_neg (show ¬ (shopped .closed (s.tun t)).health.state = .faultedSilent from hsound), armProbe_shopped,
      modMiss_eq, State.tun_setTun_self, State.tun_setTun_self, State.setTun_setTun, State.setTun_setTun]
  · rw [hshopped, if_neg (show ¬ (shopped .closed (s.tun t)).health.state = .faultedSilent from hsound), armProbe_shopped,
      modMiss_eq, State.tun_setTun_self, State.tun_setTun_self]
    rfl

theorem closing_of_silent {t : TunnelId} {s r : State} (hold : (s.tun t).shop ≠ .closed)
    (hsilent : (s.tun t).health.state = .faultedSilent) (hr : releaseSilent t 4 (s.setTun t (closedEntry s t)) = r)
    (hmiss : (r.tun t).health.miss = 0) (hcfg : (r.tun t).cfg = (s.tun t).cfg) :
    changeShop t .closed s = r.setTun t (armedIfEnabled (dormancyTick s t) (r.tun t)) := by
  have hshopped : (s.setTun t (shopped .closed (s.tun t))).tun t = shopped .closed (s.tun t) := State.tun_setTun_self _ _ _
  refine changeShop_closing_of_health hold ?_ hcfg
  rw [healthShopChange_closing (by rw [hshopped]; exact hsilent ▸ (by decide)) hold, hshopped,
    if_pos (show (shopped .closed (s.tun t)).health.state = .faultedSilent from hsilent), armProbe_shopped, hr, modMiss_eq,
    missCleared_of_zero hmiss, State.setTun_tun]

theorem closing_of_silent_not_held {t : TunnelId} {s : State} (hold : (s.tun t).shop ≠ .closed)
    (hsilent : (s.tun t).health.state = .faultedSilent) (hkey : (s.tun t).keyState ≠ .held) : changeShop t .closed s
      = (post .release (some t.val) 4 (s.setTun t (closedEntry s t))).setTun t
          (armedIfEnabled (dormancyTick s t) (seeded (closedEntry s t))) := by
  have hentry : (s.setTun t (closedEntry s t)).tun t = closedEntry s t := State.tun_setTun_self _ _ _
  have hr := releaseSilent_of_not_held (s := s.setTun t (closedEntry s t)) (by rw [hentry]; exact hkey) 4
  rw [hentry] at hr
  rw [closing_of_silent hold hsilent hr (by rw [State.tun_setTun_self]; rfl) (by rw [State.tun_setTun_self]; rfl),
    State.tun_setTun_self, State.setTun_setTun]

theorem closing_of_silent_held {t : TunnelId} {s : State} {c : CurGen} (hold : (s.tun t).shop ≠ .closed)
    (hsilent : (s.tun t).health.state = .faultedSilent) (hkey : (s.tun t).keyState = .held) (hcur : (s.tun t).cur = some c) :
    changeShop t .closed s =
      let a := attempt t (nextGeneration c.number) ((post .release (some t.val) 4 (s.setTun t (closedEntry s t))).setTun t
        (renewalStart c (seeded (closedEntry s t))))
      a.setTun t (armedIfEnabled (dormancyTick s t) (a.tun t)) := by
  have hentry : (s.setTun t (closedEntry s t)).tun t = closedEntry s t := State.tun_setTun_self _ _ _
  have hr := releaseSilent_of_held (s := s.setTun t (closedEntry s t)) (c := c) (by rw [hentry]; exact hkey)
    (by rw [hentry]; exact hcur) 4
  rw [hentry] at hr
  refine closing_of_silent hold hsilent hr ((attempt_attempted t _ _).miss_zero ?_) ?_
  · rw [State.tun_setTun_self]
    rfl
  · rw [attempt_cfg, State.tun_setTun_self]
    rfl

theorem changeShop_opening_of_unworn {t : TunnelId} {new : ShopState} {s : State} (hold : (s.tun t).shop = .closed)
    (hnew : new ≠ .closed) (h : ¬ (new = .closing ∧ Worn (s.prof t) ((openedWake t new s).tun t))) :
    changeShop t new s = (openedWake t new s).setTun t
      (restCleared (probeRestarted (probeTick s t .unknown) ((openedWake t new s).tun t))) := by
  have hcfg : (probeRestarted (probeTick s t .unknown) ((openedWake t new s).tun t)).cfg = (s.tun t).cfg := by
    rw [← openedWake_cfg t new s]
    unfold probeRestarted
    split <;> rfl
  have hworn : Worn (s.prof t) (probeRestarted (probeTick s t .unknown) ((openedWake t new s).tun t))
      ↔ Worn (s.prof t) ((openedWake t new s).tun t) := by
    unfold probeRestarted
    split <;> rfl
  have hacts := (openedWake_acts t new s).trans
    (setTun_acts t (probeRestarted (probeTick s t .unknown) ((openedWake t new s).tun t)) _)
  have hprof := actsAt_prof hacts (by rw [State.tun_setTun_self, hcfg])
  rw [changeShop_opening hold hnew]
  exact (shopChange_end_of_unworn hnew (by rw [hprof, State.tun_setTun_self, hworn]; exact h)).trans
    (by rw [State.tun_setTun_self, State.setTun_setTun])

theorem changeShop_opening_of_worn {t : TunnelId} {new : ShopState} {s : State} (hold : (s.tun t).shop = .closed)
    (hnew : new ≠ .closed) (hclosing : new = .closing) (h : Worn (s.prof t) ((openedWake t new s).tun t)) :
    changeShop t new s = (stepped (openedWake t new s)).setTun t (pendingUntil (jitterTick s)
      (restCleared (probeRestarted (probeTick s t .unknown) ((openedWake t new s).tun t)))) := by
  have hcfg : (probeRestarted (probeTick s t .unknown) ((openedWake t new s).tun t)).cfg = (s.tun t).cfg := by
    rw [← openedWake_cfg t new s]
    unfold probeRestarted
    split <;> rfl
  have hworn : Worn (s.prof t) (probeRestarted (probeTick s t .unknown) ((openedWake t new s).tun t))
      ↔ Worn (s.prof t) ((openedWake t new s).tun t) := by
    unfold probeRestarted
    split <;> rfl
  have hacts := (openedWake_acts t new s).trans
    (setTun_acts t (probeRestarted (probeTick s t .unknown) ((openedWake t new s).tun t)) _)
  have hprof := actsAt_prof hacts (by rw [State.tun_setTun_self, hcfg])
  have hlfsr : ((openedWake t new s).setTun t (probeRestarted (probeTick s t .unknown) ((openedWake t new s).tun t))).lfsr
      = s.lfsr := wake_lfsr t _
  have htick : jitterTick ((openedWake t new s).setTun t
      (probeRestarted (probeTick s t .unknown) ((openedWake t new s).tun t))) = jitterTick s := by
    rw [jitterTick, actsAt_after hacts, (actsAt_jitter hacts).1, (actsAt_jitter hacts).2, hlfsr, jitterTick]
  rw [changeShop_opening hold hnew]
  refine (shopChange_end_of_worn hnew hclosing (by rw [hprof, State.tun_setTun_self, hworn]; exact h)).trans ?_
  rw [htick, State.tun_setTun_self]
  exact State.setTun_setTun (stepped (openedWake t new s)) t _ _

/-- Settles O45: into Closed by the health state, between open states, and out of Closed by the wake. -/
theorem shopStateChanges : Obligations.ShopStateChanges := by
  intro t s x p arm seeding worn g jitter
  refine ⟨fun hold => ?_, fun new hold hnew => ?_, fun new hold hnew => ?_, fun new hold hnew hnot hdormant hcur => ?_⟩
  · intro y z r
    refine ⟨fun hoff => ?_, fun hon hsound => closing_of_sound hold hon hsound,
      fun hsilent hkey => closing_of_silent_not_held hold hsilent hkey,
      fun c hsilent hkey hcur => ?_⟩
    rotate_left
    · intro target a
      have harm : armedIfEnabled (dormancyTick s t) (a.tun t) = arm (a.tun t) := by
        have hcfg : (a.tun t).cfg = x.cfg := by
          rw [attempt_cfg, State.tun_setTun_self]
        simp only [armedIfEnabled, hcfg]
        rfl
      rw [← harm]
      exact closing_of_silent_held hold hsilent hkey hcur
    have hshopped : (s.setTun t (shopped .closed x)).tun t = shopped .closed x := State.tun_setTun_self _ _ _
    rw [changeShop_closing_of_health hold (healthShopChange_of_off (by rw [hshopped]; exact hoff) _ _)
      (by rw [hshopped]; rfl), hshopped, State.setTun_setTun]
    rfl
  · have hshopped : (s.setTun t (shopped new x)).tun t = shopped new x := State.tun_setTun_self _ _ _
    have hprof : (s.setTun t (shopped new x)).prof t = p := State.prof_setTun s t (shopped new x) rfl t
    have hworn : Worn ((s.setTun t (shopped new x)).prof t) ((s.setTun t (shopped new x)).tun t) ↔ worn x := by
      rw [hprof, hshopped]
      rfl
    rw [changeShop_among_open hold hnew]
    refine ⟨fun h => ?_, fun hclosing h => ?_⟩
    · rw [shopChange_end_of_unworn hnew (by rw [hworn]; exact h), hshopped, State.setTun_setTun]
      rfl
    · rw [shopChange_end_of_worn hnew hclosing (hworn.mpr h), hshopped]
      exact State.setTun_setTun (stepped s) t _ _
  · intro w u y
    have hy : restCleared (probeRestarted (probeTick s t .unknown) u) = y := by
      rw [probeRestarted_eq]
      rfl
    have hstep : ({ w with lfsr := g } : State) = stepped w := by
      have hlfsr : lfsrStep s.lfsr = lfsrStep w.lfsr := congrArg lfsrStep (wake_lfsr t (s.setTun t (shopped new x))).symm
      simp only [stepped, g, hlfsr]
    rw [← hy, hstep]
    exact ⟨fun h => changeShop_opening_of_unworn hold hnew h, fun hclosing h => changeShop_opening_of_worn hold hnew hclosing h⟩
  · have hshopped : (s.setTun t (shopped new x)).tun t = shopped new x := State.tun_setTun_self _ _ _
    have hwake : openedWake t new s = s.setTun t (wokenKeyed s.tick (shopped new x)) := by
      rw [openedWake, wake_of_keyed (by rw [hshopped]; exact hdormant) (by rw [hshopped]; exact hcur), hshopped,
        State.setTun_setTun]
      exact congrArg (s.setTun t) (if_neg hnew)
    rw [changeShop_opening_of_unworn hold hnew (fun h => hnot h.1), hwake, State.tun_setTun_self, State.setTun_setTun]
    rfl

end Sys2Proof.Proofs
end

section

namespace Sys2Proof.Proofs

open Sys2Proof Sys2Proof.Machine

/-! ### The probe attempt (R38, R113) -/

theorem groupLive_iff (s : State) (g : UplinkId) :
    s.groupLive g = true ↔ ∃ v ∈ s.members g, (s.uplink v).link = .up := by
  simp [State.groupLive, State.isUp]

theorem groupLive_of_up {s : State} {g v : UplinkId} (hv : v ∈ s.members g) (hup : (s.uplink v).link = .up) :
    s.groupLive g = true := (groupLive_iff s g).mpr ⟨v, hv, hup⟩

theorem groupLive_of_down {s : State} {g : UplinkId} (h : ∀ v ∈ s.members g, (s.uplink v).link ≠ .up) :
    s.groupLive g = false := by
  rw [← Bool.not_eq_true, groupLive_iff]
  exact fun ⟨v, hv, hup⟩ => h v hv hup

theorem attemptProbe_of_unsent {t : TunnelId} {s : State}
    (h : sendCurrent t kindProbe (probeBody ((s.tun t).health.probe + 1)) s = none) (isSwitch : Bool) :
    attemptProbe t isSwitch s = s := by
  unfold attemptProbe
  split
  · simp only [h]
  · rfl

/-- The entry with the next number of the current generation assigned. -/
def curSpent (c : CurGen) (x : Tunnel) : Tunnel := { x with cur := some { c with lastSeq := c.lastSeq + 1 } }

/-- The state once a PROBE is queued, before the miss test (R113). -/
def probeQueued (t : TunnelId) (c : CurGen) (s : State) : State :=
  enqueue t (currentFrame s t c kindProbe (probeBody ((s.tun t).health.probe + 1))) (s.setTun t (curSpent c (s.tun t)))

/-- The record of a queued PROBE: it is the outstanding one, and its number the last used (R113). -/
def probeRecorded (number : BitVec 8) (departure : BitVec 32) (x : Tunnel) : Tunnel :=
  { x with health := { x.health with probe := number, outstanding := some { number := number, departure := departure } } }

theorem attemptProbe_of_sent {t : TunnelId} {s : State} {c : CurGen} (hlive : s.groupLive (s.tun t).cfg.activeGroup = true)
    (hcur : (s.tun t).cur = some c) (hnum : c.lastSeq + 1 ≤ (s.prof t).frameLimit) (hroom : 0 < s.freeSlots)
    (isSwitch : Bool) : attemptProbe t isSwitch s =
      let r := missTest t isSwitch (probeQueued t c s)
      r.setTun t (probeRecorded ((s.tun t).health.probe + 1) s.clock (r.tun t)) := by
  simp only [attemptProbe, hlive, if_true, sendCurrent_of_room hcur hnum hroom]
  rfl

theorem probeQueued_tun (t : TunnelId) (c : CurGen) (s : State) : (probeQueued t c s).tun t = { curSpent c (s.tun t) with
    egress := (s.tun t).egress ++ [currentFrame s t c kindProbe (probeBody ((s.tun t).health.probe + 1))] } := by
  rw [probeQueued, enqueue_tun, State.tun_setTun_self]
  rfl

theorem missTest_eq (t : TunnelId) (isSwitch : Bool) (s : State) : missTest t isSwitch s =
    match (s.tun t).health.outstanding with
    | some o => if isSwitch then s else takeMiss t o.number s
    | none => s := by
  unfold missTest
  rfl

theorem missTest_switch (t : TunnelId) (s : State) : missTest t true s = s := by
  rw [missTest_eq]
  split <;> rfl

/-! ### A miss (R116) -/

/-- The entry with one more miss (R116). -/
def missCounted (x : Tunnel) : Tunnel := { x with health := { x.health with miss := x.health.miss + 1 } }

/-- The entry of a tunnel that its last miss makes Faulted(Silent) (R116). -/
def silenced (x : Tunnel) : Tunnel := { x with
  health := { x.health with
    miss := x.health.miss + 1, state := .faultedSilent, suspect := 0, settle := 0, seeds := [], snapshot := none } }

theorem takeMiss_of_uncounted {t : TunnelId} {s : State}
    (h : (s.tun t).shop = .closed ∨ (s.tun t).health.state = .faultedSilent ∨ (s.tun t).health.state = .off) (number : BitVec 8) :
    takeMiss t number s = s := if_pos h

theorem takeMiss_of_few {t : TunnelId} {s : State} (hopen : (s.tun t).shop ≠ .closed)
    (hsound : (s.tun t).health.state ≠ .faultedSilent) (hon : (s.tun t).health.state ≠ .off)
    (hfew : (s.tun t).health.miss + 1 < (s.prof t).missLimit) (number : BitVec 8) :
    takeMiss t number s = s.setTun t (missCounted (s.tun t)) := by
  simp only [takeMiss]
  rw [if_neg (not_or.mpr ⟨hopen, not_or.mpr ⟨hsound, hon⟩⟩), if_pos hfew]
  rfl

theorem takeMiss_of_last {t : TunnelId} {s : State} (hopen : (s.tun t).shop ≠ .closed)
    (hsound : (s.tun t).health.state ≠ .faultedSilent) (hon : (s.tun t).health.state ≠ .off)
    (hlast : (s.prof t).missLimit ≤ (s.tun t).health.miss + 1) (number : BitVec 8) : takeMiss t number s
      = post .silentFault (some t.val) (number.setWidth 32) (s.setTun t (silenced (s.tun t))) := by
  simp only [takeMiss]
  rw [if_neg (not_or.mpr ⟨hopen, not_or.mpr ⟨hsound, hon⟩⟩), if_neg (not_lt.mpr hlast)]
  rfl

/-! ### PROBE_EXPIRY (R112, R113, R115) -/

/-- The entry without an outstanding probe that left 2^31 or more units before `now` (R115). -/
def freshProbe (now : BitVec 32) (x : Tunnel) : Tunnel := { x with
  health := { x.health with
    outstanding := x.health.outstanding.filter fun o => decide ((now - o.departure).toNat < 2147483648) } }

theorem exec_probeExpiry_taken {t : TunnelId} {s : State} (hlive : s.rstLow = false) (hon : (s.tun t).health.state ≠ .off)
    (hreached : s.reached (s.tun t).health.expiry = true) (sub : Fin 100) : exec (.probeExpiry t sub) s = .next
      (settle t (armProbe t (attemptProbe t false
        ((s.clockAt sub).setTun t (freshProbe (s.clockAt sub).clock (s.tun t)))))) := by
  change Host.Outcome.next (s.live _) = _
  rw [State.live_high hlive, if_pos ⟨hon, hreached⟩]
  rfl

theorem exec_probeExpiry_idle {t : TunnelId} {s : State} (hlive : s.rstLow = false)
    (h : ¬ ((s.tun t).health.state ≠ .off ∧ s.reached (s.tun t).health.expiry = true)) (sub : Fin 100) :
    exec (.probeExpiry t sub) s = .next s := by
  change Host.Outcome.next (s.live _) = _
  rw [State.live_high hlive, if_neg h]

/-- Settles O43: the expiry taken or not, the probe sent or not, and the miss by its count. -/
theorem probeExpiresAndIsSent : Obligations.ProbeExpiresAndIsSent := by
  refine ⟨fun t sub e s hlive hon hexpiry hreached => ?_, fun t sub s hlive => ?_,
    ?_, fun t number s => ⟨fun h => ?_, fun hopen hsound hon hfew => ?_,
      fun hopen hsound hon hlast => ?_⟩⟩
  · intro x q h next
    have htaken := exec_probeExpiry_taken hlive hon (by rw [hexpiry]; exact hreached) sub
    refine ⟨htaken, fun hdown => ?_⟩
    have hentry : (q.setTun t (freshProbe q.clock x)).tun t = freshProbe q.clock x := State.tun_setTun_self _ _ _
    have htick : probeTick (q.setTun t (freshProbe q.clock x)) t x.shop = probeTick s t x.shop :=
      probeTick_acts (s := q) (setTun_acts t _ q) (by rw [hentry]; rfl) _
    rw [htaken, attemptProbe_dead t false _ (by rw [hentry]; exact groupLive_of_down hdown), armProbe_eq, hentry,
      State.setTun_setTun]
    exact congrArg (fun e => Host.Outcome.next (settle t (q.setTun t (probeArmed e (freshProbe q.clock x))))) htick
  · intro x
    refine ⟨fun e hexpiry hearly => exec_probeExpiry_idle hlive (fun h => ?_) sub,
      fun h => exec_probeExpiry_idle hlive (fun hnot => ?_) sub, rfl, fun isSwitch h => ?_⟩
    · rw [hexpiry, hearly] at h
      exact Bool.false_ne_true h.2
    · rcases h with hoff | hnone
      · exact hnot.1 hoff
      · rw [hnone] at hnot
        exact Bool.false_ne_true hnot.2
    · rcases h with hdown | hcur | ⟨c, hcur, hspent⟩ | hfull
      · exact attemptProbe_dead t isSwitch s (groupLive_of_down hdown)
      · exact attemptProbe_of_unsent (sendCurrent_of_none hcur _ _) isSwitch
      · exact attemptProbe_of_unsent (sendCurrent_of_unable hcur (.inl hspent) _ _) isSwitch
      · cases hcur : x.cur with
        | none => exact attemptProbe_of_unsent (sendCurrent_of_none hcur _ _) isSwitch
        | some c => exact attemptProbe_of_unsent (sendCurrent_of_unable hcur (.inr hfull) _ _) isSwitch
  · intro t isSwitch c v s x hv hup hcur hnum hroom number q r
    have hmiss : missTest t isSwitch (probeQueued t c s) = r := by
      rw [missTest_eq, probeQueued_tun]
      rfl
    rw [attemptProbe_of_sent (groupLive_of_up hv hup) hcur hnum hroom, hmiss]
    rfl
  · exact takeMiss_of_uncounted (by tauto) number
  · exact takeMiss_of_few hopen hsound hon hfew number
  · exact takeMiss_of_last hopen hsound hon hlast number

/-! ### The switch (R75, R76, R111, R114) -/

/-- The state once the switch has discarded an unconfirmed previous generation with its record (R76). -/
def unconfirmed (t : TunnelId) (s : State) : State :=
  match (s.tun t).prev with
  | some old => post .genUnconfirmed (some t.val) (old.number.setWidth 32) s
  | none => s

theorem unconfirmed_tun (t : TunnelId) (s : State) : (unconfirmed t s).tun t = s.tun t := by
  unfold unconfirmed
  split
  · rw [post_tun]
  · rfl

/-- A current generation as a switch installs it at `now` (R75). -/
def newGeneration (target : BitVec 8) (i : KdfInputs) (nextAge : Tick) : CurGen :=
  { number := target, ctx := KeyContext.fresh i, lastSeq := 0, age := 0, nextAge := nextAge }

/-- The entry of a tunnel after the switch to `new` (R75, R111). -/
def switchedTo (new : CurGen) (grace : Tick) (x : Tunnel) : Tunnel := { x with
  prev := x.cur.map fun c => { number := c.number, ctx := c.ctx }
  cur := some new
  grace := if x.cur = none then none else some grace
  keyState := .keyed
  renewBefore := false
  health := if x.cur = none then x.health.toSeeding else x.health }

theorem switchKeys_eq (t : TunnelId) (target : BitVec 8) (i : KdfInputs) (s : State) : switchKeys t target i s
    = (unconfirmed t s).setTun t
        (switchedTo (newGeneration target i (s.after 100)) (s.after (s.prof t).grace) (s.tun t)) := by
  have hkeys : switchKeys t target i s = (unconfirmed t s).modTun t fun x => { x with
      prev := x.cur.map fun c => { number := c.number, ctx := c.ctx }
      cur := some (newGeneration target i (s.after 100))
      grace := if x.cur.isSome then some (s.after (s.prof t).grace) else none
      keyState := .keyed
      renewBefore := false
      health := if x.cur.isSome then x.health else x.health.toSeeding } := rfl
  rw [hkeys, State.modTun, unconfirmed_tun]
  cases hcur : (s.tun t).cur <;> simp [switchedTo, hcur]

theorem switchGeneration_eq (t : TunnelId) (target : BitVec 8) (i : KdfInputs) (s : State) :
    switchGeneration t target i s = armProbe t (attemptProbe t true (switchKeys t target i s)) := rfl

theorem switchKeys_tun (t : TunnelId) (target : BitVec 8) (i : KdfInputs) (s : State) : (switchKeys t target i s).tun t
    = switchedTo (newGeneration target i (s.after 100)) (s.after (s.prof t).grace) (s.tun t) := by
  rw [switchKeys_eq, State.tun_setTun_self]

/-- The probe expiry that any further event of the switch sets (R114). -/
theorem probeTick_of_switch {t : TunnelId} {target : BitVec 8} {i : KdfInputs} {s r : State}
    (h : ActsAt t (switchKeys t target i s) r) (hcfg : (r.tun t).cfg = (s.tun t).cfg) (shop : ShopState) :
    probeTick r t shop = probeTick s t shop :=
  probeTick_acts ((switchKeys_acts t target i s).trans h) hcfg shop

/-- No miss test, and so no probe attempt, changes the configuration or the shop state of its tunnel. -/
theorem missTest_kept (t : TunnelId) (isSwitch : Bool) (s : State) :
    ((missTest t isSwitch s).tun t).cfg = (s.tun t).cfg ∧ ((missTest t isSwitch s).tun t).shop = (s.tun t).shop := by
  rw [missTest_eq]
  split
  · split
    · exact ⟨rfl, rfl⟩
    · unfold takeMiss
      simp only []
      split
      · exact ⟨rfl, rfl⟩
      · split
        · simp [State.modHealth, State.modTun]
        · simp [postTunnel, State.modHealth, State.modTun]
  · exact ⟨rfl, rfl⟩

theorem attemptProbe_kept (t : TunnelId) (isSwitch : Bool) (s : State) :
    ((attemptProbe t isSwitch s).tun t).cfg = (s.tun t).cfg ∧ ((attemptProbe t isSwitch s).tun t).shop = (s.tun t).shop := by
  unfold attemptProbe
  split
  · simp only []
    split
    · exact ⟨rfl, rfl⟩
    · rename_i r hsend
      obtain ⟨c, -, -, -, rfl⟩ := sendCurrent_some hsend
      simpa [State.modHealth, State.modTun] using missTest_kept t isSwitch
        (enqueue t (currentFrame s t c kindProbe (probeBody ((s.tun t).health.probe + 1)))
          (s.setTun t { s.tun t with cur := some { c with lastSeq := c.lastSeq + 1 } }))
  · exact ⟨rfl, rfl⟩

theorem switchGeneration_arm (t : TunnelId) (target : BitVec 8) (i : KdfInputs) (s : State) :
    switchGeneration t target i s =
      let r := attemptProbe t true (switchKeys t target i s)
      r.setTun t (probeArmed (probeTick s t (s.tun t).shop) (r.tun t)) := by
  obtain ⟨hcfg, hshop⟩ := attemptProbe_kept t true (switchKeys t target i s)
  rw [switchKeys_tun] at hcfg hshop
  rw [switchGeneration_eq, armProbe_eq, probeTick_of_switch (attemptProbe_acts t true _) hcfg, hshop]
  rfl

theorem switchGeneration_of_unsent {t : TunnelId} {target : BitVec 8} {i : KdfInputs} {s : State}
    (h : attemptProbe t true (switchKeys t target i s) = switchKeys t target i s) :
    switchGeneration t target i s = (unconfirmed t s).setTun t (probeArmed (probeTick s t (s.tun t).shop)
      (switchedTo (newGeneration target i (s.after 100)) (s.after (s.prof t).grace) (s.tun t))) := by
  rw [switchGeneration_arm, h]
  simp only [switchKeys_tun]
  rw [switchKeys_eq, State.setTun_setTun]

theorem switchKeys_freeSlots (t : TunnelId) (target : BitVec 8) (i : KdfInputs) (s : State) :
    (switchKeys t target i s).freeSlots = (unconfirmed t s).freeSlots := by
  rw [switchKeys_eq]
  exact freeSlots_setTun (by rw [unconfirmed_tun]; rfl)

theorem currentFrame_acts {t : TunnelId} {s r : State} (h : ActsAt t s r) (hcfg : (r.tun t).cfg = (s.tun t).cfg) (c : CurGen)
    (kind : BitVec 4) (body : List Byte) : currentFrame r t c kind body = currentFrame s t c kind body := by
  have hlabel : r.label = s.label := (congrArg State.label h.frame :)
  rw [currentFrame, hcfg, hlabel, currentFrame]

/-- The entry of a tunnel after a switch whose probe is queued, but for the queue (R75, R114). -/
def switchProbed (new : CurGen) (departure : BitVec 32) (expiry : Tick) (y : Tunnel) : Tunnel :=
  probeArmed expiry (probeRecorded (y.health.probe + 1) departure (curSpent new y))

theorem switchGeneration_of_sent {t : TunnelId} {target : BitVec 8} {i : KdfInputs} {s : State}
    (hlive : s.groupLive (s.tun t).cfg.activeGroup = true) (hroom : 0 < (unconfirmed t s).freeSlots)
    (hlimit : 1 ≤ (s.prof t).frameLimit) :
    let new := newGeneration target i (s.after 100)
    let y := switchedTo new (s.after (s.prof t).grace) (s.tun t)
    switchGeneration t target i s = enqueue t (currentFrame s t new kindProbe (probeBody (y.health.probe + 1)))
      ((unconfirmed t s).setTun t (switchProbed new s.clock (probeTick s t (s.tun t).shop) y)) := by
  intro new y
  have hkeys : (switchKeys t target i s).tun t = y := switchKeys_tun t target i s
  have hacts := switchKeys_acts t target i s
  have hcfg : ((switchKeys t target i s).tun t).cfg = (s.tun t).cfg := by rw [hkeys]; rfl
  have hgroup : (switchKeys t target i s).groupLive y.cfg.activeGroup = true := by
    rw [groupLive_iff] at hlive ⊢
    have hmembers (g : UplinkId) : (switchKeys t target i s).members g = s.members g := by
      rw [State.members, hacts.fields.2.2.2.2.2.1, State.members]
    have huplink (v : UplinkId) : (switchKeys t target i s).uplink v = s.uplink v := by
      rw [State.uplink, hacts.fields.2.2.2.2.1, State.uplink]
    simpa only [hmembers, huplink, y, switchedTo] using hlive
  have hclock : (switchKeys t target i s).clock = s.clock := hacts.fields.2.2.1
  have hsent := attemptProbe_of_sent (t := t) (s := switchKeys t target i s) (c := new) (by rw [hkeys]; exact hgroup)
    (by rw [hkeys]; rfl) (by rw [actsAt_prof hacts (by rw [hcfg])]; exact hlimit) (by rw [switchKeys_freeSlots]; exact hroom) true
  rw [missTest_switch, hkeys, hclock, probeQueued, hkeys, currentFrame_acts hacts hcfg, switchKeys_eq, State.setTun_setTun] at hsent
  rw [switchGeneration_arm, switchKeys_eq, hsent]
  simp only [enqueue_tun, State.tun_setTun_self, State.setTun_setTun]
  have hcomm := enqueue_setTun_comm t (currentFrame s t new kindProbe (probeBody (y.health.probe + 1)))
    ((unconfirmed t s).setTun t (curSpent new y)) (switchProbed new s.clock (probeTick s t (s.tun t).shop) y)
    (by rw [State.tun_setTun_self]; rfl) (by rw [State.tun_setTun_self]; rfl)
  rw [State.setTun_setTun] at hcomm
  exact hcomm.symm

/-- Settles O39: the keys, and the probe sent or not. -/
theorem switchInstallsTheGeneration : Obligations.SwitchInstallsTheGeneration := by
  intro t target i s x p new y expiry
  have hkeys : switchKeys t target i s = p.setTun t y := switchKeys_eq t target i s
  refine ⟨hkeys, ?_, fun hunable => ?_, fun v hv hup hroom hlimit => ?_⟩
  · intro r
    rw [switchGeneration_arm, hkeys]
    rfl
  · have hentry : (switchKeys t target i s).tun t = y := switchKeys_tun t target i s
    have hacts := switchKeys_acts t target i s
    refine switchGeneration_of_unsent ?_
    rcases hunable with hdown | hfull
    · refine attemptProbe_dead t true _ (groupLive_of_down fun v hv => ?_)
      rw [hentry, State.members, hacts.fields.2.2.2.2.2.1] at hv
      rw [State.uplink, hacts.fields.2.2.2.2.1]
      exact hdown v hv
    · refine attemptProbe_of_unsent (sendCurrent_of_unable (c := new) (by rw [hentry]) (.inr ?_) _ _) true
      rw [switchKeys_freeSlots]
      exact hfull
  · intro number z
    rw [switchGeneration_of_sent (groupLive_of_up hv hup) hroom hlimit, enqueue_eq, State.tun_setTun_self, State.setTun_setTun]
    have hprobe : y.health.probe = x.health.probe := by
      change (if x.cur = none then x.health.toSeeding else x.health).probe = _
      split <;> rfl
    have hlist : (unconfirmed t s).list x.cfg.activeGroup = s.list x.cfg.activeGroup := by
      unfold unconfirmed
      split <;> simp
    have hz : ({ switchProbed new s.clock (probeTick s t x.shop) y with
        egress := x.egress ++ [currentFrame s t new kindProbe (probeBody (y.health.probe + 1))] } : Tunnel) = z := by
      rw [switchProbed, hprobe]
      rfl
    rw [← hz, ← hlist]
    rfl

end Sys2Proof.Proofs
end

section

namespace Sys2Proof.Proofs

open Sys2Proof Sys2Proof.Machine

/-! ### The health record replaced -/

/-- The entry with the health record `k`. -/
def withHealth (k : Health) (x : Tunnel) : Tunnel := { x with health := k }

/-- The state with the health record of `t` replaced. -/
def putHealth (t : TunnelId) (k : Health) (s : State) : State := s.setTun t (withHealth k (s.tun t))

theorem modHealth_eq (t : TunnelId) (f : Health → Health) (s : State) :
    s.modHealth t f = putHealth t (f (s.tun t).health) s := rfl

@[simp] theorem putHealth_tun (t : TunnelId) (k : Health) (s : State) : (putHealth t k s).tun t = withHealth k (s.tun t) :=
  State.tun_setTun_self _ _ _

@[simp] theorem withHealth_health (k : Health) (x : Tunnel) : (withHealth k x).health = k := rfl

@[simp] theorem putHealth_putHealth (t : TunnelId) (k l : Health) (s : State) :
    putHealth t l (putHealth t k s) = putHealth t l s := by
  simp only [putHealth, State.tun_setTun_self, State.setTun_setTun]
  rfl

@[simp] theorem putHealth_prof (t t' : TunnelId) (k : Health) (s : State) : (putHealth t k s).prof t' = s.prof t' :=
  State.prof_setTun s t (withHealth k (s.tun t)) rfl t'

/-- A record posted of a replaced health record and the record replaced again: the entry is the one before. -/
theorem putHealth_post (t : TunnelId) (k l : Health) (kind : FaultKind) (detail : BitVec 32) (s : State) :
    putHealth t l (post kind (some t.val) detail (putHealth t k s))
      = (post kind (some t.val) detail (putHealth t k s)).setTun t (withHealth l (s.tun t)) := by
  rw [putHealth, post_tun, putHealth_tun]
  rfl

/-! ### Samples in Seeding (R119) -/

theorem seedSample_of_few {t : TunnelId} {n : Nat} {s : State}
    (h : (s.tun t).health.seeds.length + 1 < (s.prof t).seedCount) :
    seedSample t n s = putHealth t { (s.tun t).health with seeds := (s.tun t).health.seeds ++ [n] } s := by
  have hfew : ((s.tun t).health.seeds ++ [n]).length < (s.prof t).seedCount := by simpa using h
  simp only [seedSample, if_pos hfew]
  rfl

theorem seedSample_of_last {t : TunnelId} {n : Nat} {s : State}
    (h : (s.prof t).seedCount ≤ (s.tun t).health.seeds.length + 1) : seedSample t n s =
      let seeds := (s.tun t).health.seeds ++ [n]
      let seed := seeds.sum / seeds.length
      if (s.prof t).seedMin ≤ seed ∧ seed ≤ (s.prof t).seedMax then
        putHealth t { (s.tun t).health with
          seeds := [], state := .normal, refSeed := seed
          fast := 16 * seed, slow := 16 * seed, base := 16 * seed, dev := 0, comp := 0 } s
      else post .seedError (some t.val) (BitVec.ofNat 32 seed)
        (putHealth t { (s.tun t).health with seeds := [], state := .unseeded } s) := by
  have hlast : ¬ ((s.tun t).health.seeds ++ [n]).length < (s.prof t).seedCount := by simpa using h
  simp only [seedSample, if_neg hlast]
  rfl

/-! ### Samples through the filters (R117, R118, R121, R122, R133) -/

/-- The health record after the filters of a sample (R117). -/
def sampled (t : TunnelId) (n : Nat) (s : State) : Health :=
  filterHealth (s.prof t) n (compensation s t) (s.tun t).health

theorem filterSample_eq (t : TunnelId) (n : Nat) (s : State) : filterSample t n s =
    if (s.tun t).health.state = .faultedDelay then decideRelease t (putHealth t (sampled t n s) s)
    else decideDelay t n (putHealth t (sampled t n s) s) := rfl

/-- The reseed of Reference `t` is deferred: a Follower of it is Suspect or Faulted (R133). -/
def Deferred (s : State) (t : TunnelId) : Prop :=
  (s.tun t).cfg.role = .reference ∧ ∃ f, (s.tun f).cfg.role = .follower ∧ (s.tun f).cfg.reference = t
    ∧ ((s.tun f).health.state = .suspect ∨ (s.tun f).health.state = .faultedDelay ∨ (s.tun f).health.state = .faultedSilent)

theorem troubled_iff (h : HealthState) :
    h.troubled = true ↔ h = .suspect ∨ h = .faultedDelay ∨ h = .faultedSilent := by
  cases h <;> decide

theorem followerTroubled_iff (s : State) (t : TunnelId) : followerTroubled s t = true ↔
    ∃ f, (s.tun f).cfg.role = .follower ∧ (s.tun f).cfg.reference = t
      ∧ ((s.tun f).health.state = .suspect ∨ (s.tun f).health.state = .faultedDelay
        ∨ (s.tun f).health.state = .faultedSilent) := by
  rw [followerTroubled, vector_toList_eq_map, List.any_map, List.any_eq_true]
  simp only [List.mem_finRange, true_and, Function.comp, Bool.and_eq_true, decide_eq_true_eq, troubled_iff, and_assoc]
  rfl

/-- A Reference is no Follower, so its own health record has no part in the deferral. -/
theorem deferred_putHealth (t : TunnelId) (k : Health) (s : State) :
    ((putHealth t k s).tun t).cfg.role = .reference ∧ followerTroubled (putHealth t k s) t = true ↔ Deferred s t := by
  rw [followerTroubled_iff, putHealth_tun]
  refine and_congr_right fun hrole => exists_congr fun f => ?_
  by_cases hf : f = t
  · subst hf
    have hno : ¬ (s.tun f).cfg.role = .follower := by
      rw [show (s.tun f).cfg.role = .reference from hrole]
      decide
    rw [putHealth_tun]
    exact ⟨fun h => absurd h.1 hno, fun h => absurd h.1 hno⟩
  · rw [putHealth, State.tun_setTun_ne _ _ hf]

/-- The health record after the baseline step of a sample (R117). -/
def rebased (p : Profile) (n : Nat) (k : Health) : Health := { k with base := filterStep k.base (16 * n) p.baseBeta }

theorem baselineStep_eq (t : TunnelId) (n : Nat) (k : Health) (s : State) : baselineStep t n (putHealth t k s) =
    let l := rebased (s.prof t) n k
    if 16 * ((s.prof t).reseedBand : Int) < |l.base - 16 * (l.refSeed : Int)| then
      if ((putHealth t l s).tun t).cfg.role = .reference ∧ followerTroubled (putHealth t l s) t = true then putHealth t l s
      else putHealth t l.toSeeding (post .reseed (some t.val) (signed32 l.base) (putHealth t l s))
    else putHealth t l s := by
  have hrebase : (putHealth t k s).modHealth t (fun h => { h with base := filterStep h.base (16 * n) (s.prof t).baseBeta })
      = putHealth t (rebased (s.prof t) n k) s := by
    rw [modHealth_eq, putHealth_tun, putHealth_putHealth]
    rfl
  simp only [baselineStep, putHealth_prof, hrebase, putHealth_tun, withHealth_health]
  rw [modHealth_eq, postTunnel, post_tun, putHealth_tun, withHealth_health]

theorem baselineStep_of_near {t : TunnelId} {n : Nat} {k : Health} {s : State}
    (h : |(rebased (s.prof t) n k).base - 16 * (k.refSeed : Int)| ≤ 16 * ((s.prof t).reseedBand : Int) ∨ Deferred s t) :
    baselineStep t n (putHealth t k s) = putHealth t (rebased (s.prof t) n k) s := by
  simp only [baselineStep_eq]
  split
  next hfar =>
    exact if_pos ((deferred_putHealth t (rebased (s.prof t) n k) s).mpr (h.resolve_left (not_le.mpr hfar)))
  next => rfl

theorem baselineStep_of_far {t : TunnelId} {n : Nat} {k : Health} {s : State}
    (hfar : 16 * ((s.prof t).reseedBand : Int) < |(rebased (s.prof t) n k).base - 16 * (k.refSeed : Int)|)
    (hnow : ¬ Deferred s t) : baselineStep t n (putHealth t k s) =
      let l := rebased (s.prof t) n k
      putHealth t l.toSeeding (post .reseed (some t.val) (signed32 l.base) (putHealth t l s)) := by
  rw [baselineStep_eq]
  exact (if_pos hfar).trans (if_neg fun h => hnow ((deferred_putHealth t (rebased (s.prof t) n k) s).mp h))

/-- The health record of a tunnel left Normal by a sample, before the baseline step (R121). -/
def leftNormal (h : Health) : Health := { h with state := .normal, suspect := 0 }

theorem decideDelay_of_low {t : TunnelId} {n : Nat} {k : Health} {s : State} (h : k.comp < 16 * ((s.prof t).threshold : Int)) :
    decideDelay t n (putHealth t k s) = baselineStep t n (putHealth t (leftNormal k) s) := by
  simp only [decideDelay, modHealth_eq, putHealth_prof, putHealth_tun, putHealth_putHealth, withHealth_health]
  exact if_pos h

/-- The suspect count that a sample above the threshold makes (R121). -/
def suspectNext (h : Health) : Nat := if h.state = .normal then 1 else h.suspect + 1

theorem decideDelay_of_few {t : TunnelId} {n : Nat} {k : Health} {s : State} (h : 16 * ((s.prof t).threshold : Int) ≤ k.comp)
    (hfew : suspectNext k < (s.prof t).suspectCount) :
    decideDelay t n (putHealth t k s) = putHealth t { k with state := .suspect, suspect := suspectNext k } s := by
  simp only [decideDelay, modHealth_eq, putHealth_prof, putHealth_tun, putHealth_putHealth, withHealth_health]
  rw [if_neg (not_lt.mpr h)]
  exact if_pos hfew

theorem decideDelay_of_many {t : TunnelId} {n : Nat} {k : Health} {s : State} (h : 16 * ((s.prof t).threshold : Int) ≤ k.comp)
    (hmany : (s.prof t).suspectCount ≤ suspectNext k) : decideDelay t n (putHealth t k s)
      = post .delayFault (some t.val) (signed32 k.comp)
          (putHealth t { k with state := .faultedDelay, suspect := 0, settle := 0, snapshot := none } s) := by
  simp only [decideDelay, modHealth_eq, putHealth_prof, putHealth_tun, putHealth_putHealth, withHealth_health]
  rw [if_neg (not_lt.mpr h)]
  exact if_neg (not_lt.mpr hmany)

theorem snapshotTest_iff (p : Profile) (h : Health) : snapshotTest p h = true ↔
    ∃ v, h.snapshot = some v ∧ Int.tdiv (v * p.releasePct) 128 < h.slow - h.fast := by
  unfold snapshotTest
  split
  next hnone => simp [hnone]
  next v hv => simp [hv]

theorem decideRelease_eq (t : TunnelId) (k : Health) (s : State) : decideRelease t (putHealth t k s) =
    let l := settleHealth (s.prof t) k
    let released := fun cause => putHealth t l.toSeeding (post .release (some t.val) cause (putHealth t l s))
    if k.comp < 16 * ((s.prof t).threshold : Int) then released 1
    else if snapshotTest (s.prof t) l then released 2 else putHealth t l s := by
  have hrelease (cause : BitVec 32) (l : Health) : releaseDelay t cause (putHealth t l s)
      = putHealth t l.toSeeding (post .release (some t.val) cause (putHealth t l s)) := by
    rw [releaseDelay, modHealth_eq, postTunnel, post_tun, putHealth_tun]
    rfl
  simp only [decideRelease, modHealth_eq, putHealth_prof, putHealth_tun, putHealth_putHealth, hrelease]
  rfl

/-! ### Samples by the health state (R115) -/

theorem takeSample_of_seeding {t : TunnelId} {s : State} (h : (s.tun t).health.state = .seeding) (n : Nat) :
    takeSample t n s = seedSample t n s := by
  simp only [takeSample, h]

theorem takeSample_of_delayed {t : TunnelId} {s : State} (h : (s.tun t).health.state = .faultedDelay) (n : Nat) :
    takeSample t n s = decideRelease t (putHealth t (sampled t n s) s) := by
  simp only [takeSample, h]
  rw [filterSample_eq, if_pos h]

theorem takeSample_of_sound {t : TunnelId} {s : State}
    (h : (s.tun t).health.state = .normal ∨ (s.tun t).health.state = .suspect) (n : Nat) :
    takeSample t n s = decideDelay t n (putHealth t (sampled t n s) s) := by
  rcases h with h | h <;> simp only [takeSample, h] <;> rw [filterSample_eq, if_neg (by rw [h]; decide)]

theorem takeSample_of_deaf {t : TunnelId} {s : State} (h : (s.tun t).health.state = .off ∨ (s.tun t).health.state = .unseeded
    ∨ (s.tun t).health.state = .faultedSilent) (n : Nat) : takeSample t n s = s := by
  rcases h with h | h | h <;> simp only [takeSample, h]

/-! ### A valid ECHO (R115, R123) -/

/-- What an ECHO of probe `number` does to a tunnel that is not Faulted(Silent) (R115). -/
def answerEcho (t : TunnelId) (number : BitVec 8) (arrival : BitVec 32) (s : State) : State :=
  match (s.tun t).health.outstanding with
  | none => s
  | some o =>
    if o.number = number ∧ (s.tun t).health.state ≠ .off then
      takeSample t (sampleOf arrival o.departure) (putHealth t { (s.tun t).health with outstanding := none, miss := 0 } s)
    else s

theorem takeEcho_eq (t : TunnelId) (number : BitVec 8) (arrival : BitVec 32) (s : State) : takeEcho t number arrival s
    = answerEcho t number arrival (if (s.tun t).health.state = .faultedSilent then releaseSilent t 3 s else s) := by
  unfold takeEcho answerEcho
  rfl

theorem takeEcho_of_sound {t : TunnelId} {s : State} (h : (s.tun t).health.state ≠ .faultedSilent) (number : BitVec 8)
    (arrival : BitVec 32) : takeEcho t number arrival s = answerEcho t number arrival s := by
  rw [takeEcho_eq, if_neg h]

theorem takeEcho_of_silent {t : TunnelId} {s : State} (h : (s.tun t).health.state = .faultedSilent)
    (hreleased : ((releaseSilent t 3 s).tun t).health.state ≠ .faultedSilent) (number : BitVec 8) (arrival : BitVec 32) :
    takeEcho t number arrival s = takeEcho t number arrival (releaseSilent t 3 s) := by
  rw [takeEcho_eq, if_pos h, takeEcho_of_sound hreleased]

theorem answerEcho_of_match {t : TunnelId} {number : BitVec 8} {s : State} {o : Outstanding}
    (ho : (s.tun t).health.outstanding = some o) (hnumber : o.number = number) (hon : (s.tun t).health.state ≠ .off)
    (arrival : BitVec 32) : answerEcho t number arrival s = takeSample t (sampleOf arrival o.departure)
      (putHealth t { (s.tun t).health with outstanding := none, miss := 0 } s) := by
  simp only [answerEcho, ho, if_pos (⟨hnumber, hon⟩ : o.number = number ∧ (s.tun t).health.state ≠ .off)]

theorem answerEcho_of_other {t : TunnelId} {number : BitVec 8} {s : State}
    (h : (s.tun t).health.state = .off ∨ ∀ o, (s.tun t).health.outstanding = some o → o.number ≠ number)
    (arrival : BitVec 32) : answerEcho t number arrival s = s := by
  unfold answerEcho
  split
  · rfl
  next o ho =>
    refine if_neg fun hmatch => ?_
    rcases h with hoff | hother
    · exact hmatch.2 hoff
    · exact hother o ho hmatch.1

theorem Attempted.health {x y : Tunnel} (h : Attempted x y) : y.health = x.health ∨ y.health = x.health.toOff := by
  cases h
  · exact .inl rfl
  · exact .inl rfl
  · exact .inr rfl

/-- Settles O46: each sample by the health state, and an ECHO by the probe it answers. -/
theorem samplesDecideTheHealth : Obligations.SamplesDecideTheHealth := by
  intro t s x p h put seeding
  refine ⟨fun n => ?_, fun number arrival => ?_⟩
  · intro seeds mean fast slow comp base filtered count normal deferred settle snapshot settled falling released
    refine ⟨fun hstate hfew => ?_, fun hstate hmany hlow hhigh => ?_, fun hstate hmany hout => ?_, fun hstate hcomp => ⟨fun hnear => ?_,
      fun hfar hnow => ?_⟩, fun hstate hcomp hfew => ?_, fun hstate hcomp hmany => ?_, fun hstate hcomp => ?_,
      fun hstate hcomp => ⟨fun hfalling => ?_, fun hfalling => ?_⟩, fun hstate => takeSample_of_deaf hstate n⟩
    · rw [takeSample_of_seeding hstate, seedSample_of_few hfew]
      rfl
    · rw [takeSample_of_seeding hstate, seedSample_of_last hmany]
      exact if_pos ⟨hlow, hhigh⟩
    · rw [takeSample_of_seeding hstate, seedSample_of_last hmany]
      exact if_neg hout
    · rw [takeSample_of_sound hstate, decideDelay_of_low (k := sampled t n s) hcomp, baselineStep_of_near (k := leftNormal (sampled t n s)) hnear]
      rfl
    · rw [takeSample_of_sound hstate, decideDelay_of_low (k := sampled t n s) hcomp, baselineStep_of_far (k := leftNormal (sampled t n s)) hfar hnow]
      exact putHealth_post t _ _ _ _ s
    · rw [takeSample_of_sound hstate, decideDelay_of_few (k := sampled t n s) hcomp hfew]
      rfl
    · rw [takeSample_of_sound hstate, decideDelay_of_many (k := sampled t n s) hcomp hmany]
      rfl
    · rw [takeSample_of_delayed hstate, decideRelease_eq]
      refine (if_pos hcomp).trans ?_
      exact putHealth_post t _ _ _ _ s
    · rw [takeSample_of_delayed hstate, decideRelease_eq]
      refine (if_neg (not_lt.mpr hcomp)).trans ((if_pos ((snapshotTest_iff _ _).mpr hfalling)).trans ?_)
      exact putHealth_post t _ _ _ _ s
    · rw [takeSample_of_delayed hstate, decideRelease_eq]
      exact (if_neg (not_lt.mpr hcomp)).trans (if_neg fun htest => hfalling ((snapshotTest_iff _ _).mp htest))
  · refine ⟨fun hother => ?_, fun o hon hsound ho hnumber => ?_, fun hsilent => ⟨fun hkey => ?_, fun c hkey hcur => ?_⟩⟩
    · rcases hother with hoff | ⟨hsound, hother⟩
      · rw [takeEcho_of_sound (by rw [show (s.tun t).health.state = .off from hoff]; decide),
          answerEcho_of_other (.inl hoff)]
      · rw [takeEcho_of_sound hsound, answerEcho_of_other (.inr hother)]
    · rw [takeEcho_of_sound hsound, answerEcho_of_match ho hnumber hon]
      rfl
    · have hrelease := releaseSilent_of_not_held (t := t) (s := s) hkey 3
      rw [takeEcho_of_silent hsilent (by rw [hrelease, State.tun_setTun_self]; exact (by decide : HealthState.seeding ≠ .faultedSilent)),
        hrelease]
      rfl
    · have hrelease := releaseSilent_of_held (t := t) (s := s) hkey hcur 3
      have hreleased : ((releaseSilent t 3 s).tun t).health.state ≠ .faultedSilent := by
        rw [hrelease]
        rcases (attempt_attempted t (nextGeneration c.number)
          ((post .release (some t.val) 3 s).setTun t (renewalStart c (seeded (s.tun t))))).health with hkept | hoff
        · rw [hkept, State.tun_setTun_self]
          exact (by decide : HealthState.seeding ≠ .faultedSilent)
        · rw [hoff]
          exact (by decide : HealthState.off ≠ .faultedSilent)
      intro target
      rw [takeEcho_of_silent hsilent hreleased, hrelease, State.setTun_setTun]
      rfl

end Sys2Proof.Proofs
end

section

namespace Sys2Proof.Proofs

open Sys2Proof Sys2Proof.Machine

/-! ### What the Classifier reads (R3, R16) -/

theorem extractLsb'_eq_zero_iff {w n : Nat} (x : BitVec w) : x.extractLsb' 0 n = 0 ↔ x.toNat % 2 ^ n = 0 := by
  rw [← BitVec.toNat_inj]
  simp

theorem ipHeaderLength_eq (bs : List Byte) : ipHeaderLength bs = 4 * ((byteAt bs 14).toNat % 16) := by
  simp [ipHeaderLength, Nat.mul_comm]

theorem ipVersion_iff (b : Byte) : b.extractLsb' 4 4 = 4 ↔ b.toNat / 16 = 4 := by
  have hlt := b.isLt
  rw [← BitVec.toNat_inj]
  simp only [BitVec.extractLsb'_toNat, Nat.shiftRight_eq_div_pow]
  change b.toNat / 2 ^ 4 % 2 ^ 4 = 4 ↔ _
  omega

theorem isIPv4_iff (f : EthFrame) : f.isIPv4 = true ↔ f.etherType = 0x0800 ∧ (byteAt f.bytes 14).toNat / 16 = 4
    ∧ 5 ≤ (byteAt f.bytes 14).toNat % 16 ∧ 4 * ((byteAt f.bytes 14).toNat % 16) ≤ (f.bytes.drop 14).length := by
  simp only [EthFrame.isIPv4, Bool.and_eq_true, beq_iff_eq, decide_eq_true_iff, ipHeaderLength_eq, ipVersion_iff, and_assoc,
    List.length_drop]
  refine and_congr_right fun _ => and_congr_right fun _ => ?_
  omega

theorem shopOfStatusCode_iff (code : Byte) (shop : ShopState) : shopOfStatusCode code = some shop ↔
    (code.toNat = 1 ∧ shop = .opened) ∨ (code.toNat = 2 ∧ shop = .closing) ∨ (code.toNat = 3 ∧ shop = .closed) := by
  unfold shopOfStatusCode
  split
  next h => simp [h, eq_comm]
  next h => simp [h, eq_comm]
  next h => simp [h, eq_comm]
  next h1 h2 h3 => simp_all

theorem isStatusMessage_iff (port statusType : BitVec 16) (f : EthFrame) {udp : Nat}
    (hudp : udp = 14 + 4 * ((byteAt f.bytes 14).toNat % 16)) :
    isStatusMessage port statusType f = true ↔ port ≠ 0 ∧ byteAt f.bytes 23 = 17 ∧ (be16At f.bytes 20).toNat % 8192 = 0
      ∧ be16At f.bytes (udp + 2) = port ∧ 11 ≤ (be16At f.bytes (udp + 4)).toNat
      ∧ udp + (be16At f.bytes (udp + 4)).toNat ≤ f.bytes.length ∧ be16At f.bytes (udp + 8) = statusType := by
  simp only [isStatusMessage, ipHeaderLength_eq, ← hudp, Bool.and_eq_true, bne_iff_ne, beq_iff_eq, decide_eq_true_iff,
    extractLsb'_eq_zero_iff]
  tauto

theorem statusMessage_iff (port statusType : BitVec 16) (f : EthFrame) (shop : ShopState) :
    statusMessage port statusType f = some shop ↔ isStatusMessage port statusType f = true
      ∧ shopOfStatusCode (byteAt f.bytes (14 + 4 * ((byteAt f.bytes 14).toNat % 16) + 10)) = some shop := by
  unfold statusMessage
  rw [ipHeaderLength_eq]
  split <;> simp [*]

/-! ### LOOKUP_TAKE_FRAME (R1, R3, R8) -/

/-- The state once the lookup stage has taken the oldest held frame. -/
def afterTake (rest : List EthFrame) (s : State) : State := { s with holding := rest }

theorem exec_lookup_of_holds {f : EthFrame} {rest : List EthFrame} {s : State} (h : s.Holds f rest) :
    exec .lookupTakeFrame s = .next (classify f (afterTake rest s)) := by
  obtain ⟨hlive, hrunning, hhead⟩ := h
  change Host.Outcome.next (s.live _) = _
  rw [State.live_high hlive]
  simp only [hhead]
  rw [if_neg (by simp [hrunning])]
  rfl

theorem exec_lookup_idle {s : State} (hlive : s.rstLow = false) (h : s.paused = true ∨ s.holding = []) :
    exec .lookupTakeFrame s = .next s := by
  change Host.Outcome.next (s.live _) = _
  rw [State.live_high hlive]
  rcases h with hpaused | hempty
  · simp only [hpaused, if_true]
    split <;> rfl
  · simp only [hempty]

theorem classify_of_covered {f : EthFrame} {s : State} {i : EntryId} (hip : f.isIPv4 = true)
    (hi : coveringEntry s.intervals (storeKey s.keyOffset f) = some i) :
    classify f s = applyEntry i (storeKey s.keyOffset f) f s := by
  simp only [classify, hip, if_true, hi]

theorem classify_of_mapsTo {f : EthFrame} {s : State} {t : TunnelId} (h : s.MapsTo f t) :
    classify f s = officeFrameAt t f s := by
  obtain ⟨hip, i, hi, haction, hn⟩ := h
  rw [classify_of_covered hip hi]
  simp only [applyEntry, haction, hn, Fin.is_lt, dif_pos, Fin.eta]

/-- Settles O28: the lookup stage by what the frame is and what its interval says. -/
theorem lookupDrops : Obligations.LookupDrops := by
  refine ⟨isIPv4_iff, fun f rest s hholds => ?_, fun s => exec_lookup_idle⟩
  rw [exec_lookup_of_holds hholds]
  refine ⟨fun hnot => ?_, fun i hip hi => ⟨fun haction => ?_, fun haction hrange => ?_⟩⟩
  · rw [classify, if_neg (by simp [hnot])]
    rfl
  · rw [classify_of_covered (s := afterTake rest s) hip hi]
    simp only [applyEntry, show (afterTake rest s).intervals[i].action = .drop from haction]
    rfl
  · rw [classify_of_covered (s := afterTake rest s) hip hi]
    simp only [applyEntry, show (afterTake rest s).intervals[i].action = .tunnel from haction]
    exact congrArg Host.Outcome.next (dif_neg (not_lt.mpr (Nat.succ_le_of_lt hrange)))

/-! ### The snoop and the tunnel checks (R12 to R17) -/

theorem snoop_of_unsnooped {t : TunnelId} {f : EthFrame} {s : State} (h : s.Unsnooped f t) : snoop t f s = s := by
  unfold snoop
  split
  next new hnew =>
    split
    next hsnoop =>
      rcases h new hnew with hclear | hsame
      · exact absurd hsnoop (by simp [hclear])
      · exact if_pos hsame
    next => rfl
  next => rfl

theorem snoop_of_message {t : TunnelId} {f : EthFrame} {s : State} {new : ShopState}
    (hnew : statusMessage s.statusPort s.statusType f = some new) (hsnoop : (s.tun t).cfg.snoop = true)
    (hchange : (s.tun t).shop ≠ new) : snoop t f s = changeShop t new s := by
  simp only [snoop, hnew, hsnoop, if_true]
  exact if_neg hchange

theorem exec_lookup_of_unsnooped {f : EthFrame} {rest : List EthFrame} {s : State} {t : TunnelId} (hholds : s.Holds f rest)
    (hmaps : s.MapsTo f t) (hquiet : s.Unsnooped f t) :
    exec .lookupTakeFrame s = .next (settle t (tunnelChecks t f (afterTake rest s))) := by
  rw [exec_lookup_of_holds hholds, classify_of_mapsTo (s := afterTake rest s) hmaps, officeFrameAt,
    snoop_of_unsnooped (s := afterTake rest s) hquiet]

theorem exec_lookup_of_message {f : EthFrame} {rest : List EthFrame} {s : State} {t : TunnelId} {new : ShopState}
    (hholds : s.Holds f rest) (hmaps : s.MapsTo f t) (hnew : statusMessage s.statusPort s.statusType f = some new)
    (hsnoop : (s.tun t).cfg.snoop = true) (hchange : (s.tun t).shop ≠ new) :
    exec .lookupTakeFrame s = .next (settle t (tunnelChecks t f (changeShop t new (afterTake rest s)))) := by
  rw [exec_lookup_of_holds hholds, classify_of_mapsTo (s := afterTake rest s) hmaps, officeFrameAt,
    snoop_of_message (s := afterTake rest s) hnew hsnoop hchange]

/-- The entry with a frame counted in NO_KEY (R12). -/
def noKeyCounted (x : Tunnel) : Tunnel := { x with counters := { x.counters with noKey := satInc x.counters.noKey } }

theorem tunnelChecks_of_disabled {t : TunnelId} {s : State} (h : (s.tun t).cfg.enabled = false) (f : EthFrame) :
    tunnelChecks t f s = s.setTun t (noKeyCounted (s.tun t)) := by
  rw [tunnelChecks, if_neg (by simp [h])]
  rfl

theorem tunnelChecks_of_enabled {t : TunnelId} {s : State} (h : (s.tun t).cfg.enabled = true) (f : EthFrame) :
    tunnelChecks t f s = match ((wake t s).tun t).cur with
      | none => dropNoKey t (wake t s)
      | some c => checkAndEncipher t c f (wake t s) :=
  if_pos h

theorem tunnelChecks_of_none {t : TunnelId} {s : State} (h : (s.tun t).cfg.enabled = true)
    (hcur : ((wake t s).tun t).cur = none) (f : EthFrame) : tunnelChecks t f s = dropNoKey t (wake t s) := by
  rw [tunnelChecks_of_enabled h]
  simp only [hcur]

theorem tunnelChecks_of_cur {t : TunnelId} {s : State} {c : CurGen} (h : (s.tun t).cfg.enabled = true)
    (hcur : ((wake t s).tun t).cur = some c) (f : EthFrame) : tunnelChecks t f s = checkAndEncipher t c f (wake t s) := by
  rw [tunnelChecks_of_enabled h]
  simp only [hcur]

theorem dropNoKey_of_idle {t : TunnelId} {s : State} (h : (s.tun t).keyState ≠ .unkeyed ∨ (s.tun t).holdoff.isSome) :
    dropNoKey t s = s.setTun t (noKeyCounted (s.tun t)) := by
  refine if_neg fun hnot => ?_
  rcases h with hkey | hholdoff
  · exact hkey hnot.1
  · rw [hnot.2] at hholdoff
    exact Bool.false_ne_true hholdoff

theorem dropNoKey_of_start {t : TunnelId} {s : State} (henabled : (s.tun t).cfg.enabled = true)
    (hkey : (s.tun t).keyState = .unkeyed) (hholdoff : (s.tun t).holdoff = none) :
    dropNoKey t s = attempt t 1 (s.setTun t (keyingStart (noKeyCounted (s.tun t)))) := by
  have hstart : dropNoKey t s = startInitialKeying t (s.setTun t (noKeyCounted (s.tun t))) := if_pos ⟨hkey, hholdoff⟩
  rw [hstart, startInitialKeying_eq_attempt (by rw [State.tun_setTun_self]; exact henabled)
    (by rw [State.tun_setTun_self]; exact hkey), State.setTun_setTun, State.tun_setTun_self]
  rfl

/-- A generation is exhausted for data, or expired (R34, R35). -/
theorem exhausted_or_expired_iff (c : CurGen) (p : Profile) :
    (c.exhausted p || c.expired p) = true ↔ p.frameLimit - 16 < c.lastSeq + 1 ∨ p.ageLimit ≤ c.age := by
  simp only [CurGen.exhausted, CurGen.expired, Bool.or_eq_true, decide_eq_true_iff]

/-- The entry with a frame counted in EXHAUSTED (R13). -/
def exhaustedCounted (x : Tunnel) : Tunnel :=
  { x with counters := { x.counters with exhausted := satInc x.counters.exhausted } }

/-- The entry with a frame counted in TAIL_DROP (R14). -/
def tailDropCounted (x : Tunnel) : Tunnel := { x with counters := { x.counters with tailDrop := satInc x.counters.tailDrop } }

theorem checkAndEncipher_of_worn {t : TunnelId} {c : CurGen} {s : State}
    (h : (s.prof t).frameLimit - 16 < c.lastSeq + 1 ∨ (s.prof t).ageLimit ≤ c.age) (f : EthFrame) :
    checkAndEncipher t c f s = post .keyExhausted (some t.val) (seqField c.lastSeq)
      (s.setTun t (exhaustedCounted (s.tun t))) := by
  simp only [checkAndEncipher]
  rw [if_pos ((exhausted_or_expired_iff c (s.prof t)).mpr h)]
  rfl

theorem checkAndEncipher_of_full {t : TunnelId} {c : CurGen} {s : State}
    (hfit : ¬ ((s.prof t).frameLimit - 16 < c.lastSeq + 1 ∨ (s.prof t).ageLimit ≤ c.age))
    (hfull : (s.prof t).dataLimit ≤ (s.tun t).dataFrames ∨ s.freeSlots ≤ 64) (f : EthFrame) :
    checkAndEncipher t c f s = post .tailDrop (some t.val) (BitVec.ofNat 32 s.freeSlots)
      (s.setTun t (tailDropCounted (s.tun t))) := by
  simp only [checkAndEncipher]
  rw [if_neg (fun h => hfit ((exhausted_or_expired_iff c (s.prof t)).mp h)), if_pos (by simpa using hfull)]
  rfl

theorem checkAndEncipher_of_fit {t : TunnelId} {c : CurGen} {s : State}
    (hfit : ¬ ((s.prof t).frameLimit - 16 < c.lastSeq + 1 ∨ (s.prof t).ageLimit ≤ c.age))
    (hroom : (s.tun t).dataFrames < (s.prof t).dataLimit) (hslots : 64 < s.freeSlots) (f : EthFrame) :
    checkAndEncipher t c f s = encipherData t c f s := by
  simp only [checkAndEncipher]
  rw [if_neg (fun h => hfit ((exhausted_or_expired_iff c (s.prof t)).mp h)),
    if_neg (by simp only [Bool.or_eq_true, decide_eq_true_iff]; omega)]

/-- The entry of a tunnel that has enciphered a data frame under `c`, but for the queue (R37, R82, R140). -/
def enciphered (c : CurGen) (e : Tick) (x : Tunnel) : Tunnel :=
  { x with
    cur := some { c with lastSeq := c.lastSeq + 1 }
    sample := min (x.sample + 1) 65535
    counters := { x.counters with framesOut := satInc x.counters.framesOut }
    dormancyExpiry := if x.shop = .closed then some e else x.dormancyExpiry
    dormancyDue := if x.shop = .closed then false else x.dormancyDue }

/-- The entry of a tunnel that has enciphered a data frame under `c`, but for the queue and the timer (R37, R82). -/
def dataSpent (c : CurGen) (x : Tunnel) : Tunnel :=
  { curSpent c x with
    sample := min (x.sample + 1) 65535
    counters := { x.counters with framesOut := satInc x.counters.framesOut } }

theorem enciphered_of_closed {x : Tunnel} (h : x.shop = .closed) (c : CurGen) (e : Tick) :
    enciphered c e x = restArmed e (dataSpent c x) := by
  simp only [enciphered, if_pos h]
  rfl

theorem enciphered_of_open {x : Tunnel} (h : x.shop ≠ .closed) (c : CurGen) (e : Tick) :
    enciphered c e x = dataSpent c x := by
  simp only [enciphered, if_neg h]
  rfl

theorem encipherData_eq {t : TunnelId} {c : CurGen} {s : State} (hcur : (s.tun t).cur = some c) (f : EthFrame) :
    encipherData t c f s = enqueue t (currentFrame s t c kindData f.bytes)
      (s.setTun t (enciphered c (dormancyTick s t) (s.tun t))) := by
  have hencipher : encipherData t c f s = dataActivity t (enqueue t (currentFrame s t c kindData f.bytes)
      (s.setTun t (dataSpent c (s.tun t)))) := by
    simp only [encipherData, State.modTun, Tunnel.spendCurrent, hcur, Option.map_some]
    rfl
  have hacts := (setTun_acts t (dataSpent c (s.tun t)) s).trans (enqueue_acts t (currentFrame s t c kindData f.bytes) _)
  have htick := dormancyTick_acts hacts (by rw [enqueue_tun, State.tun_setTun_self]; rfl)
  rw [hencipher, dataActivity_eq, htick, enqueue_tun, State.tun_setTun_self]
  by_cases hclosed : (s.tun t).shop = .closed
  · have hcomm := enqueue_setTun_comm t (currentFrame s t c kindData f.bytes) (s.setTun t (dataSpent c (s.tun t)))
      (restArmed (dormancyTick s t) (dataSpent c (s.tun t)))
      (by rw [State.tun_setTun_self]; rfl) (by rw [State.tun_setTun_self]; rfl)
    rw [State.setTun_setTun] at hcomm
    rw [enciphered_of_closed hclosed, hcomm]
    exact if_pos hclosed
  · rw [enciphered_of_open hclosed]
    exact if_neg hclosed

/-- Settles O30: the encipher, the snoop and its recogniser. -/
theorem officeFrameIsEnciphered : Obligations.OfficeFrameIsEnciphered := by
  refine ⟨?_, fun f rest s t hholds hmaps => ⟨fun shop hnew hsnoop hchange =>
    exec_lookup_of_message hholds hmaps hnew hsnoop hchange, fun hquiet => exec_lookup_of_unsnooped hholds hmaps hquiet⟩, ?_⟩
  · intro f rest s t c hholds hmaps hquiet hawake henabled hcur hnum hage hroom hslots x y q
    have hwake : wake t (afterTake rest s) = afterTake rest s := wake_awake t (afterTake rest s) hawake
    rw [exec_lookup_of_unsnooped hholds hmaps hquiet,
      tunnelChecks_of_cur (s := afterTake rest s) henabled (by rw [hwake]; exact hcur), hwake,
      checkAndEncipher_of_fit (s := afterTake rest s) (not_or.mpr ⟨not_lt.mpr hnum, not_le.mpr hage⟩) hroom hslots,
      encipherData_eq (s := afterTake rest s) hcur, enqueue_eq, State.tun_setTun_self, State.setTun_setTun]
    rfl
  · intro port statusType f shop bytes udp length code
    rw [statusMessage_iff, isStatusMessage_iff port statusType f (udp := udp) rfl, shopOfStatusCode_iff]
    tauto

/-! ### The wake before the tunnel checks (R144, R145) -/

theorem wokenTimer_kept (e : Tick) (x : Tunnel) : (wokenTimer e x).cfg = x.cfg ∧ (wokenTimer e x).cur = x.cur
    ∧ (wokenTimer e x).keyState = x.keyState ∧ (wokenTimer e x).counters = x.counters := by
  unfold wokenTimer
  split <;> exact ⟨rfl, rfl, rfl, rfl⟩

/-- No attempt leaves a tunnel UNKEYED, or gives it a generation, or counts a frame. -/
theorem Attempted.keying {x y : Tunnel} (h : Attempted x y) :
    (y.keyState = x.keyState ∨ y.keyState = .noSecret) ∧ (y.cur = x.cur ∨ y.cur = none) ∧ y.counters = x.counters := by
  cases h
  · exact ⟨.inl rfl, .inl rfl, rfl⟩
  · exact ⟨.inl rfl, .inl rfl, rfl⟩
  · exact ⟨.inr rfl, .inr rfl, rfl⟩

/-- A dormant tunnel that lost its keys holds none once it is woken, and no initial keying is left to start. -/
theorem wake_of_none {t : TunnelId} {s : State} (hdormant : (s.tun t).dormant = true) (hcur : (s.tun t).cur = none)
    (henabled : (s.tun t).cfg.enabled = true) : ((wake t s).tun t).cur = none
      ∧ ((wake t s).tun t).keyState ≠ .unkeyed ∧ ((wake t s).tun t).counters = (s.tun t).counters := by
  by_cases hkey : (s.tun t).keyState = .unkeyed
  · have hattempt := attempt_attempted t 1 (s.setTun t (keyingStart (awake (s.tun t))))
    rw [State.tun_setTun_self] at hattempt
    obtain ⟨hstate, hnone, hcounters⟩ := hattempt.keying
    rw [wake_of_unkeyed hdormant hcur henabled hkey, State.tun_setTun_self]
    obtain ⟨-, hcur', hkey', hcounters'⟩ := wokenTimer_kept (dormancyTick s t)
      ((attempt t 1 (s.setTun t (keyingStart (awake (s.tun t))))).tun t)
    rw [hcur', hkey', hcounters']
    refine ⟨hnone.elim (fun h => h.trans hcur) id, ?_, hcounters⟩
    rcases hstate with h | h <;> rw [h]
    · exact (by decide : KeyState.offering 1 ≠ .unkeyed)
    · decide
  · rw [wake_of_idle hdormant hcur (fun h => hkey h.2), State.tun_setTun_self]
    obtain ⟨-, hcur', hkey', hcounters'⟩ := wokenTimer_kept (dormancyTick s t) (awake (s.tun t))
    rw [hcur', hkey', hcounters']
    exact ⟨hcur, hkey, rfl⟩

/-- Settles O29: each failed check, awake and dormant. -/
theorem tunnelChecksDrop : Obligations.TunnelChecksDrop := by
  intro f rest s t hholds hmaps hquiet q x noKey
  have hexec := exec_lookup_of_unsnooped hholds hmaps hquiet
  refine ⟨fun hdisabled => ?_, fun hawake => ?_, fun hdormant henabled => ⟨fun c hcur => ?_, fun hcur => ?_⟩⟩
  · rw [hexec, tunnelChecks_of_disabled (s := afterTake rest s) hdisabled]
    rfl
  · have hwake : wake t (afterTake rest s) = afterTake rest s := wake_awake t (afterTake rest s) hawake
    have hnone (henabled : x.cfg.enabled = true) (hcur : x.cur = none) :
        tunnelChecks t f (afterTake rest s) = dropNoKey t (afterTake rest s) := by
      rw [tunnelChecks_of_none (s := afterTake rest s) henabled (by rw [hwake]; exact hcur), hwake]
    have hsome (c : CurGen) (henabled : x.cfg.enabled = true) (hcur : x.cur = some c) :
        tunnelChecks t f (afterTake rest s) = checkAndEncipher t c f (afterTake rest s) := by
      rw [tunnelChecks_of_cur (s := afterTake rest s) henabled (by rw [hwake]; exact hcur), hwake]
    rw [hexec]
    refine ⟨fun henabled hcur hidle => ?_, fun henabled hcur hkey hholdoff => ?_, fun c henabled hcur hworn => ?_,
      fun c henabled hcur hfit hfull => ?_⟩
    · rw [hnone henabled hcur, dropNoKey_of_idle (s := afterTake rest s) hidle]
      rfl
    · rw [hnone henabled hcur, dropNoKey_of_start (s := afterTake rest s) henabled hkey hholdoff]
      have hstart : keyingStart (noKeyCounted x) = { noKey with attempts := 0, keyState := .offering 1 } := by
        simp only [keyingStart, noKeyCounted, noKey, hholdoff]
      rw [← hstart]
      rfl
    · rw [hsome c henabled hcur, checkAndEncipher_of_worn (s := afterTake rest s) hworn]
      rfl
    · rw [hsome c henabled hcur, checkAndEncipher_of_full (s := afterTake rest s) hfit hfull]
      rfl
  · have hwoken : wake t s = s.setTun t (wokenTimer (dormancyTick s t) (wokenKeyed s.tick x)) :=
      wake_of_keyed hdormant (by rw [hcur]; simp)
    have htaken : wake t (afterTake rest s) = afterTake rest (wake t s) := by
      rw [hwoken]
      exact wake_of_keyed (s := afterTake rest s) hdormant (by rw [show ((afterTake rest s).tun t).cur = some c from hcur]; simp)
    have hcur' : ((wake t s).tun t).cur = some c := by
      rw [hwoken, State.tun_setTun_self, (wokenTimer_kept _ _).2.1]
      exact hcur
    have hawake := wake_dormant t s
    refine ⟨hawake, hcur', ?_⟩
    have hholds' : (wake t s).Holds f rest := by
      rw [hwoken]
      exact hholds
    have hmaps' : (wake t s).MapsTo f t := by
      rw [hwoken]
      exact hmaps
    have hquiet' : (wake t s).Unsnooped f t := by
      intro shop hshop
      rw [wake_cfg, wake_shop]
      rw [hwoken] at hshop
      exact hquiet shop hshop
    have hagain : wake t (afterTake rest (wake t s)) = afterTake rest (wake t s) := wake_awake t _ hawake
    rw [hexec, exec_lookup_of_unsnooped hholds' hmaps' hquiet',
      tunnelChecks_of_cur (s := afterTake rest s) (c := c) henabled (by rw [htaken]; exact hcur'),
      tunnelChecks_of_cur (s := afterTake rest (wake t s)) (c := c)
        (by change ((wake t s).tun t).cfg.enabled = true; rw [wake_cfg]; exact henabled) (by rw [hagain]; exact hcur'),
      htaken, hagain]
  · intro w
    obtain ⟨hcur', hkey, hcounters⟩ := wake_of_none (s := afterTake rest s) hdormant hcur henabled
    rw [hexec, tunnelChecks_of_none (s := afterTake rest s) henabled hcur', dropNoKey_of_idle (.inl hkey), noKeyCounted,
      hcounters]
    rfl

end Sys2Proof.Proofs
end

section

namespace Sys2Proof.Proofs

open Sys2Proof Sys2Proof.Machine

/-! ### The Key Derivation Unit's events (R58, R60, R61) -/

theorem exec_derivationStart {s : State} (hlive : s.rstLow = false) : exec .derivationStart s = .next (startDerivation s) :=
  congrArg Host.Outcome.next (State.live_high hlive startDerivation)

theorem startDerivation_of_head {s : State} {e : KduEntry} {rest : List KduEntry} {m : MasterSecret} (hidle : s.kduFlight = none)
    (hqueue : s.kduQueue = e :: rest) (hsecret : (s.tun e.tunnel).secret = some m) : startDerivation s = { s with
      kduQueue := rest
      kduFlight := some { owner := some e.tunnel, kind := e.kind, inputs := kdfInputs e.tunnel m e.kind } } := by
  simp only [startDerivation, hidle, hqueue, hsecret]

theorem startDerivation_of_none {s : State} (h : s.kduFlight.isSome ∨ s.kduQueue = []) : startDerivation s = s := by
  rcases h with hbusy | hempty
  · exact startDerivation_busy s hbusy
  · unfold startDerivation
    split
    next hqueue => exact absurd (hempty ▸ hqueue) (by simp)
    next => rfl

/-- The state once the derivation in flight has completed at the part `sub` of the tick (R60). -/
def unitFreed (sub : Fin 100) (s : State) : State := { s.clockAt sub with kduFlight := none }

theorem exec_derivationComplete_idle {s : State} (hlive : s.rstLow = false) (h : s.kduFlight = none) (sub : Fin 100) :
    exec (.derivationComplete sub) s = .next s := by
  change Host.Outcome.next (s.live _) = _
  rw [State.live_high hlive, h]

theorem exec_derivationComplete_busy {s : State} {d : KduFlight} (hlive : s.rstLow = false) (h : s.kduFlight = some d)
    (sub : Fin 100) :
    exec (.derivationComplete sub) s = .next (afterDerived d.owner (takeDerived d (unitFreed sub s))) := by
  change Host.Outcome.next (s.live _) = _
  rw [State.live_high hlive, h]
  rfl

/-- The entry of a tunnel whose bootstrap has completed (R58). -/
def bootstrapped (i : KdfInputs) (x : Tunnel) : Tunnel :=
  { x with gen0 := some { epoch := i.epoch, ctx := KeyContext.fresh i, lastSeq := 0 }, keyState := .unkeyed }

theorem completeBootstrap_eq {t : TunnelId} {s : State} (hkey : (s.tun t).keyState = .bootstrap) (i : KdfInputs) :
    completeBootstrap t i s = if (s.tun t).cfg.enabled = true ∧ (s.tun t).dormant = false then
        attempt t 1 (s.setTun t (keyingStart (bootstrapped i (s.tun t))))
      else s.setTun t (bootstrapped i (s.tun t)) := by
  have hstore : completeBootstrap t i s = if (s.tun t).dormant then s.setTun t (bootstrapped i (s.tun t))
      else startInitialKeying t (s.setTun t (bootstrapped i (s.tun t))) := if_pos hkey
  rw [hstore]
  by_cases hdormant : (s.tun t).dormant = true
  · rw [if_pos hdormant, if_neg (fun h => by simp [hdormant] at h)]
  · rw [if_neg hdormant]
    by_cases henabled : (s.tun t).cfg.enabled = true
    · rw [if_pos ⟨henabled, by simpa using hdormant⟩, startInitialKeying_eq_attempt (by rw [State.tun_setTun_self]; exact henabled)
        (by rw [State.tun_setTun_self]; rfl), State.setTun_setTun, State.tun_setTun_self]
      rfl
    · rw [if_neg (fun h => henabled h.1), startInitialKeying_idle]
      rw [State.tun_setTun_self]
      exact fun h => henabled h.1

theorem takeDerived_bootstrap {d : KduFlight} {t : TunnelId} (howner : d.owner = some t) (hkind : d.kind = .bootstrap)
    (s : State) : takeDerived d s = completeBootstrap t d.inputs s := by
  simp only [takeDerived, howner, hkind]

theorem takeDerived_generation {d : KduFlight} {t : TunnelId} {target : BitVec 8} {b n : BitVec 128} {s : State}
    (howner : d.owner = some t) (hkind : d.kind = .generation target b n) (hkey : (s.tun t).keyState = .deriv target) :
    takeDerived d s = switchGeneration t target d.inputs s := by
  simp only [takeDerived, howner, hkind, hkey, if_true]

theorem takeDerived_ownerless {d : KduFlight} (howner : d.owner = none) (s : State) : takeDerived d s = s := by
  cases hkind : d.kind <;> simp only [takeDerived, howner, hkind]

/-- Settles O38: the start, and the completion by its owner and kind. -/
theorem derivationStartsAndCompletes : Obligations.DerivationStartsAndCompletes := by
  refine ⟨fun s hlive => ⟨fun e rest m hidle hqueue hsecret => ?_, fun h => ?_, exec_derivationStart hlive,
    fun h sub => exec_derivationComplete_idle hlive h sub⟩, fun sub d s hlive hflight => ?_⟩
  · rw [exec_derivationStart hlive, startDerivation_of_head hidle hqueue hsecret]
    rfl
  · rw [exec_derivationStart hlive, startDerivation_of_none h]
  · intro q ctx
    rw [exec_derivationComplete_busy hlive hflight]
    refine ⟨fun howner => ?_, fun t howner hkind hkey => ?_, fun t target b n howner hkind hkey => ?_⟩
    · rw [takeDerived_ownerless howner, howner]
      rfl
    · rw [takeDerived_bootstrap howner hkind, howner, completeBootstrap_eq (s := unitFreed sub s) hkey]
      rfl
    · rw [takeDerived_generation (s := unitFreed sub s) howner hkind hkey, howner]
      rfl

/-! ### The expiries of the Renewal Controller (R34, R67, R70, R73, R77) -/

theorem failExchange_eq (t : TunnelId) (target : BitVec 8) (s : State) : failExchange t target s =
    let y := { s.tun t with nonce := none, attempts := 0, holdoff := some (s.after (s.prof t).retryHoldoff) }
    (post .renewFail (some t.val) (target.setWidth 32) (s.setTun t y)).setTun t
      { y with keyState := if (s.tun t).cur = none then .unkeyed else .keyed } := by
  simp only [failExchange, postTunnel, State.modTun, post_tun, State.tun_setTun_self]
  cases (s.tun t).cur <;> rfl

theorem exec_responseExpiry_of_offering {t : TunnelId} {s : State} {target : BitVec 8} (hlive : s.rstLow = false)
    (hkey : (s.tun t).keyState = .offering target) : exec (.responseExpiry t) s = .next
      (if s.reached ((s.tun t).nonce.map OfferNonce.expiry) then
        settle t (if (s.tun t).attempts < 1 + (s.prof t).retryLimit then attempt t target s else failExchange t target s)
      else s) := by
  change Host.Outcome.next (s.live _) = _
  rw [State.live_high hlive, hkey]

theorem exec_responseExpiry_idle {t : TunnelId} {s : State} (hlive : s.rstLow = false)
    (h : s.reached ((s.tun t).nonce.map OfferNonce.expiry) = false ∨ ∀ target, (s.tun t).keyState ≠ .offering target) :
    exec (.responseExpiry t) s = .next s := by
  change Host.Outcome.next (s.live _) = _
  rw [State.live_high hlive]
  split
  next target hkey =>
    rcases h with hearly | hno
    · rw [if_neg (by simp [hearly])]
    · exact absurd hkey (hno target)
  next => rfl

theorem exec_retryHoldoffExpiry {t : TunnelId} {s : State} (hlive : s.rstLow = false) : exec (.retryHoldoffExpiry t) s
    = .next (if s.reached (s.tun t).holdoff then s.setTun t { s.tun t with holdoff := none } else s) :=
  congrArg Host.Outcome.next (State.live_high hlive _)

theorem exec_jitterDelayExpiry {t : TunnelId} {s : State} (hlive : s.rstLow = false) : exec (.jitterDelayExpiry t) s
    = .next (if (s.tun t).keyState = .pending ∧ s.reached (s.tun t).jitter = true then endJitterDelay t s else s) :=
  congrArg Host.Outcome.next (State.live_high hlive _)

theorem exec_jitterDelayExpiry_taken {t : TunnelId} {s : State} (hlive : s.rstLow = false) (hkey : (s.tun t).keyState = .pending)
    (hreached : s.reached (s.tun t).jitter = true) : exec (.jitterDelayExpiry t) s = .next (endJitterDelay t s) := by
  rw [exec_jitterDelayExpiry hlive, if_pos (⟨hkey, hreached⟩ : (s.tun t).keyState = .pending ∧ s.reached (s.tun t).jitter = true)]

theorem exec_jitterDelayExpiry_idle {t : TunnelId} {s : State} (hlive : s.rstLow = false)
    (h : (s.tun t).keyState ≠ .pending ∨ s.reached (s.tun t).jitter = false) : exec (.jitterDelayExpiry t) s = .next s := by
  have hidle : ¬ ((s.tun t).keyState = .pending ∧ s.reached (s.tun t).jitter = true) := by
    rw [not_and_or, Bool.not_eq_true]
    exact h
  rw [exec_jitterDelayExpiry hlive, if_neg hidle]

theorem endJitterDelay_of_silent {t : TunnelId} {s : State} (h : (s.tun t).health.state = .faultedSilent) :
    endJitterDelay t s = s.setTun t { s.tun t with jitter := none, keyState := .held } := by
  have hheld : endJitterDelay t s = (s.setTun t { s.tun t with jitter := none }).modTun t fun x => { x with keyState := .held } :=
    if_pos h
  rw [hheld, State.modTun, State.setTun_setTun, State.tun_setTun_self]

theorem endJitterDelay_of_sound {t : TunnelId} {s : State} {c : CurGen} (h : (s.tun t).health.state ≠ .faultedSilent)
    (hkey : (s.tun t).keyState = .pending) (hcur : (s.tun t).cur = some c) : endJitterDelay t s
      = settle t (attempt t (nextGeneration c.number) (s.setTun t (renewalStart c (s.tun t)))) := by
  have hstart : endJitterDelay t s = settle t (startRenewal t (s.setTun t { s.tun t with jitter := none })) := if_neg h
  rw [hstart, startRenewal_eq_attempt (c := c) (by rw [State.tun_setTun_self]; exact hcur)
    (by rw [State.tun_setTun_self]; exact congrArg KeyState.renewable hkey), State.setTun_setTun, State.tun_setTun_self]
  rfl

theorem exec_ageIncrement {t : TunnelId} {s : State} (hlive : s.rstLow = false) : exec (.ageIncrement t) s
    = .next (if s.reached ((s.tun t).cur.map CurGen.nextAge) then
        s.setTun t { s.tun t with cur := (s.tun t).cur.map CurGen.older } else s) :=
  congrArg Host.Outcome.next (State.live_high hlive _)

theorem exec_graceExpiry_of_prev {t : TunnelId} {s : State} {p : PrevGen} (hlive : s.rstLow = false)
    (hprev : (s.tun t).prev = some p) : exec (.graceExpiry t) s = .next (if s.reached (s.tun t).grace then
      post .genUnconfirmed (some t.val) (p.number.setWidth 32) (s.setTun t { s.tun t with prev := none, grace := none })
      else s) := by
  change Host.Outcome.next (s.live _) = _
  rw [State.live_high hlive, hprev]
  rfl

theorem exec_graceExpiry_idle {t : TunnelId} {s : State} (hlive : s.rstLow = false)
    (h : s.reached (s.tun t).grace = false ∨ (s.tun t).prev = none) : exec (.graceExpiry t) s = .next s := by
  change Host.Outcome.next (s.live _) = _
  rw [State.live_high hlive]
  split
  next p hprev =>
    rcases h with hearly | hno
    · rw [if_neg (by simp [hearly])]
    · exact absurd (hno ▸ hprev) (by simp)
  next => rfl

theorem reached_none (s : State) : s.reached none = false := rfl

/-- Settles O40: by the response expiry and the attempt count. -/
theorem responseAndHoldoffExpire : Obligations.ResponseAndHoldoffExpire := by
  intro t s hlive x
  refine ⟨fun target o hkey hnonce hreached hfew => ?_, fun target o hkey hnonce hreached hmany => ?_,
    fun e hholdoff hreached => ?_, fun o hnonce hearly => ?_, fun e hholdoff hearly => ?_, fun h => ?_, fun hholdoff => ?_⟩
  · rw [exec_responseExpiry_of_offering hlive hkey, hnonce, Option.map_some, if_pos hreached, if_pos hfew]
  · rw [exec_responseExpiry_of_offering hlive hkey, hnonce, Option.map_some, if_pos hreached, if_neg (not_lt.mpr hmany),
      failExchange_eq]
  · rw [exec_retryHoldoffExpiry hlive, hholdoff, if_pos hreached]
  · exact exec_responseExpiry_idle hlive (.inl (by rw [hnonce]; exact hearly))
  · rw [exec_retryHoldoffExpiry hlive, hholdoff, if_neg (by simp [hearly])]
  · refine exec_responseExpiry_idle hlive (h.imp_left fun hnonce => ?_)
    rw [hnonce]
    rfl
  · rw [exec_retryHoldoffExpiry hlive, hholdoff, if_neg (by simp [reached_none])]

/-- Settles O41: each expiry, taken or not. -/
theorem jitterGraceAndAgeExpire : Obligations.JitterGraceAndAgeExpire := by
  intro t s hlive x
  refine ⟨fun e hkey hjitter hreached hsilent => ?_, fun e c hkey hjitter hreached hsound hcur => ?_,
    fun e p hprev hgrace hreached => ?_, fun c hcur hreached => ?_, fun e hjitter hearly => ?_, fun e hgrace hearly => ?_,
    fun c hcur hearly => ?_, fun h => ?_, fun h => ?_, fun hcur => ?_⟩
  · rw [exec_jitterDelayExpiry_taken hlive hkey (by rw [hjitter]; exact hreached), endJitterDelay_of_silent hsilent]
  · rw [exec_jitterDelayExpiry_taken hlive hkey (by rw [hjitter]; exact hreached), endJitterDelay_of_sound hsound hkey hcur]
    rfl
  · rw [exec_graceExpiry_of_prev hlive hprev, hgrace, if_pos hreached]
  · rw [exec_ageIncrement hlive, hcur, Option.map_some, if_pos hreached]
    rfl
  · exact exec_jitterDelayExpiry_idle hlive (.inr (by rw [hjitter]; exact hearly))
  · exact exec_graceExpiry_idle hlive (.inl (by rw [hgrace]; exact hearly))
  · rw [exec_ageIncrement hlive, hcur, Option.map_some, if_neg (by simp [hearly])]
  · refine exec_jitterDelayExpiry_idle hlive (h.imp_right fun hjitter => ?_)
    rw [hjitter]
    rfl
  · refine exec_graceExpiry_idle hlive (h.symm.imp_left fun hgrace => ?_)
    rw [hgrace]
    rfl
  · rw [exec_ageIncrement hlive, hcur, Option.map_none, if_neg (by simp [reached_none])]

/-! ### The entry into Dormant (R32, R141, R142) -/

theorem retained_iff (s : State) (t : TunnelId) : s.retained t = true
    ↔ s.bankMask.getLsbD (t.val / 128) = false ∧ s.segmentMask.getLsbD (t.val % 128 / 16) = false := by
  simp [State.retained, bankOf, segmentOf]

theorem mayRest_iff (x : Tunnel) :
    x.mayRest = true ↔ (x.keyState = .keyed ∨ x.keyState = .unkeyed) ∧ x.egress = [] := by
  simp [Tunnel.mayRest]

theorem exec_dormancyExpiry {t : TunnelId} {s : State} (hlive : s.rstLow = false) : exec (.dormancyExpiry t) s
    = .next (if s.reached (s.tun t).dormancyExpiry then takeDormancyExpiry t s else s) :=
  congrArg Host.Outcome.next (State.live_high hlive _)

theorem exec_dormantEntry {t : TunnelId} {s : State} (hlive : s.rstLow = false) :
    exec (.dormantEntry t) s = .next (enterIfWaiting t s) :=
  congrArg Host.Outcome.next (State.live_high hlive _)

/-- Settles O44: the entry, the expiry taken or not, and the later entry. -/
theorem dormancyEntersTheTunnel : Obligations.DormancyEntersTheTunnel := by
  intro t s hlive x ready retained kept erased entered
  have hentered : x.enterDormant (s.retained t) = entered := by
    have hretained : s.retained t = false ↔ ¬ retained := by rw [← Bool.not_eq_true, retained_iff]
    unfold Tunnel.enterDormant
    simp only [hretained]
    by_cases herase : x.keyState = .keyed ∧ (¬ retained ∨ x.renewBefore = true)
    · rw [if_pos herase, show entered = erased from if_pos herase]
      rfl
    · rw [if_neg herase, show entered = kept from if_neg herase]
      rfl
  refine ⟨hentered, fun e hexpiry hearly => ?_, fun e hexpiry hreached => ⟨fun hready => ?_, fun hbusy => ?_⟩,
    fun hexpiry => ?_, fun hdue hready => ?_, fun h => ?_⟩
  · rw [exec_dormancyExpiry hlive, hexpiry, if_neg (by simp [hearly])]
  · rw [exec_dormancyExpiry hlive, hexpiry, if_pos hreached, takeDormancyExpiry, if_pos ((mayRest_iff x).mpr hready),
      State.modTun, hentered]
  · rw [exec_dormancyExpiry hlive, hexpiry, if_pos hreached, takeDormancyExpiry,
      if_neg (fun h => hbusy ((mayRest_iff x).mp h))]
    rfl
  · rw [exec_dormancyExpiry hlive, hexpiry, if_neg (by simp [reached_none])]
  · rw [exec_dormantEntry hlive, enterIfWaiting_eq, if_pos ⟨hdue, hready.2, hready.1⟩, hentered]
  · rw [exec_dormantEntry hlive, enterIfWaiting_eq, if_neg]
    rintro ⟨hdue, hempty, hkey⟩
    rcases h with hno | hbusy
    · exact Bool.false_ne_true (hno.symm.trans hdue)
    · exact hbusy ⟨hkey, hempty⟩

end Sys2Proof.Proofs
end

section

namespace Sys2Proof.Proofs

open Sys2Proof Sys2Proof.Machine

/-! ### The promises that need no other, and what keeps them -/

/-- The replay windows of one tunnel (R44). -/
abbrev TunnelWindows (x : Tunnel) : Prop :=
  (∀ g ∈ x.gen0, g.ctx.window.Ok) ∧ (∀ c ∈ x.cur, c.ctx.window.Ok) ∧ ∀ p ∈ x.prev, p.ctx.window.Ok

/-- The bounds of one tunnel's arithmetic (R82, R83, R127). -/
abbrev TunnelBounds (x : Tunnel) : Prop := x.health.InBounds ∧ x.rate ≤ 1048560 ∧ x.sample ≤ 65535

/-- A change leaves the queue of commands, and every promise that needs no other but the one of the derivations. -/
structure KeepsCore (s r : State) : Prop where
  pending : r.pending = s.pending
  faults : s.FaultQueueOk → r.FaultQueueOk
  indicator : s.IndicatorOk → r.IndicatorOk
  queues : s.QueuesOk → r.QueuesOk
  slots : s.SlotsOk → r.SlotsOk
  waiting : s.WaitingOk → r.WaitingOk
  settings : s.SettingsOk → r.SettingsOk
  windows : s.WindowsOk → r.WindowsOk
  arithmetic : s.ArithmeticOk → r.ArithmeticOk

/-- A change keeps that of the derivations too (R59). -/
structure Keeps (s r : State) : Prop extends KeepsCore s r where
  derivations : s.DerivationsOk → r.DerivationsOk

theorem KeepsCore.trans {s r q : State} (h : KeepsCore s r) (h' : KeepsCore r q) : KeepsCore s q where
  pending := h'.pending.trans h.pending
  faults := h'.faults ∘ h.faults
  indicator := h'.indicator ∘ h.indicator
  queues := h'.queues ∘ h.queues
  slots := h'.slots ∘ h.slots
  waiting := h'.waiting ∘ h.waiting
  settings := h'.settings ∘ h.settings
  windows := h'.windows ∘ h.windows
  arithmetic := h'.arithmetic ∘ h.arithmetic

theorem Keeps.refl (s : State) : Keeps s s := ⟨⟨rfl, id, id, id, id, id, id, id, id⟩, id⟩

theorem Keeps.trans {s r q : State} (h : Keeps s r) (h' : Keeps r q) : Keeps s q :=
  ⟨h.toKeepsCore.trans h'.toKeepsCore, h'.derivations ∘ h.derivations⟩

theorem Keeps.ite {s a b : State} {c : Prop} [Decidable c] (h : c → Keeps s a) (h' : ¬ c → Keeps s b) :
    Keeps s (if c then a else b) := by
  split
  · exact h ‹_›
  · exact h' ‹_›

/-! ### The Fault Reporter -/

theorem keeps_setFlags (s : State) (f : BitVec 11) : Keeps s (s.setFlags f) :=
  ⟨⟨rfl, id, fun _ => setFlags_indicator s f, id, id, id, id, id, id⟩, id⟩

theorem keeps_modCounters (s : State) (f : DeviceCounters → DeviceCounters) : Keeps s (s.modCounters f) :=
  ⟨⟨rfl, id, id, id, id, id, id, id, id⟩, id⟩

theorem keeps_overflow (s : State) {n : Nat} (h : n ≤ 65535) : Keeps s { s with overflow := n } :=
  ⟨⟨rfl, id, id, id, id, id,
    fun ⟨profiles, offset, lfsr, base, range, interval, holdoff, _, label⟩ =>
      ⟨profiles, offset, lfsr, base, range, interval, holdoff, h, label⟩, id, id⟩, id⟩

theorem keeps_faults (s : State) (q : List FaultRecord) (h : s.FaultQueueOk → State.FaultQueueOk { s with faults := q }) :
    Keeps s { s with faults := q } :=
  ⟨⟨rfl, h, id, id, id, id, id, id, id⟩, id⟩

/-- A record updated in place, or one joined at the tail, leaves the queue without doubles and within 64 (R150). -/
theorem queuePost_ok (k : FaultKind) (subject : Option Nat) (d : BitVec 32) (now : Tick) (s : State) (h : s.FaultQueueOk) :
    State.FaultQueueOk { s with faults := (queuePost k subject d now s.faults).1 } := by
  obtain ⟨hnodup, hlen, hcount⟩ := h
  by_cases hany : s.faults.any (fun r : FaultRecord => r.isFor k subject) = true
  · have hkeys : ∀ r : FaultRecord, ((if r.isFor k subject then r.again d now else r).kind,
        (if r.isFor k subject then r.again d now else r).subject) = (r.kind, r.subject) := by
      intro r
      split <;> rfl
    refine ⟨?_, ?_, ?_⟩
    · simpa only [queuePost, if_pos hany, List.map_map, Function.comp_def, hkeys] using hnodup
    · simpa only [queuePost, if_pos hany, List.length_map] using hlen
    · simp only [queuePost, if_pos hany, List.mem_map]
      rintro r ⟨r0, hr0, rfl⟩
      have := hcount r0 hr0
      split
      · simp only [FaultRecord.again]
        omega
      · exact this
  · by_cases hroom : s.faults.length < 64
    · simp only [queuePost, if_neg hany, if_pos hroom]
      refine ⟨?_, ?_, ?_⟩
      · have hnew : ∀ r ∈ s.faults, ¬ (r.kind = k ∧ r.subject = subject) := by
          simpa [FaultRecord.isFor] using hany
        rw [List.map_append, List.nodup_append]
        refine ⟨hnodup, by simp, ?_⟩
        simp only [List.mem_map, List.map_cons, List.map_nil, List.mem_singleton]
        rintro _ ⟨r, hr, rfl⟩ _ rfl heq
        exact hnew r hr (Prod.mk.inj heq)
      · simp only [List.length_append, List.length_cons, List.length_nil]
        omega
      · intro r hr
        rcases List.mem_append.mp hr with hr | hr
        · exact hcount r hr
        · rw [List.mem_singleton.mp hr]
          exact ⟨Nat.le_refl 1, (by decide : 1 ≤ 65535)⟩
    · simp only [queuePost, if_neg hany, if_neg hroom]
      exact ⟨hnodup, hlen, hcount⟩

theorem keeps_recordPost (k : FaultKind) (subject : Option Nat) (d : BitVec 32) (s : State) :
    Keeps s (recordPost k subject d s) := by
  unfold recordPost
  simp only []
  split
  · exact (keeps_faults s _ (queuePost_ok k subject d s.tick s)).trans (keeps_setFlags _ _)
  · exact (keeps_overflow s (Nat.min_le_right _ _)).trans (keeps_setFlags _ _)

/-! ### Notices and the office transmit queue -/

theorem keeps_officePush (s : State) (k : OfficeKind) (f : EthFrame) {reserve : Nat} (h : s.officeRoom reserve = true) :
    Keeps s (s.officePush k f) := by
  obtain ⟨hqueue, hfree⟩ := officeRoom_eq_true_iff _ _ |>.mp h
  have hlen : (s.officePush k f).officeQueue.length = s.officeQueue.length + 1 := by simp [State.officePush]
  refine ⟨⟨rfl, id, id, fun ⟨hold, _, cascade⟩ => ⟨hold, ?_, cascade⟩, fun _ => ?_, id, id, id, id⟩, id⟩
  · omega
  · change (s.tunnels.toList.map fun t => t.egress.length).sum + (s.officePush k f).officeQueue.length
      + s.officeTx.toList.length + (s.uplinks.toList.filter fun u => u.tx.isSome).length ≤ 4096
    simp only [State.freeSlots, State.usedSlots] at hfree
    omega

theorem keeps_noticePending (s : State) : Keeps s { s with noticePending := true } :=
  ⟨⟨rfl, id, id, id, id, id, id, id, id⟩, id⟩

theorem keeps_expiries (s : State) (report holdoff : Option Tick) (waits : Bool) :
    Keeps s { s with reportExpiry := report, holdoffExpiry := holdoff, noticePending := waits } :=
  ⟨⟨rfl, id, id, id, id, id, id, id, id⟩, id⟩

theorem keeps_dropNotice (s : State) : Keeps s (dropNotice s) := by
  have hrecord := (keeps_modCounters s fun c => { c with officeOverrun := satInc c.officeOverrun }).trans
    (keeps_recordPost .officeOverrun none (BitVec.ofNat 32 s.freeSlots) (countOverrun s))
  exact .ite (fun _ => hrecord.trans (keeps_noticePending _)) fun _ => hrecord

theorem keeps_sendNotice (s : State) : Keeps s (sendNotice s) := by
  unfold sendNotice
  split
  · exact .refl s
  · exact .ite (keeps_officePush s _ _) fun _ => keeps_dropNotice s

theorem keeps_sendArmed (s : State) : Keeps s (sendNotice (armNotice s)) :=
  (keeps_expiries s _ _ s.noticePending).trans (keeps_sendNotice _)

theorem keeps_post (k : FaultKind) (subject : Option Nat) (d : BitVec 32) (s : State) : Keeps s (post k subject d s) := by
  have hrecord := keeps_recordPost k subject d s
  refine .ite (fun _ => hrecord.trans ?_) fun _ => hrecord
  unfold noticeOnSet
  split
  · exact keeps_sendArmed _
  · exact keeps_noticePending _

theorem keeps_postTunnel (k : FaultKind) (t : TunnelId) (d : BitVec 32) (s : State) : Keeps s (postTunnel k t d s) :=
  keeps_post k _ d s

theorem keeps_officeOverrun (s : State) : Keeps s (officeOverrun s) :=
  (keeps_modCounters s _).trans (keeps_post .officeOverrun none _ _)

theorem keeps_offerClear (f : EthFrame) (s : State) : Keeps s (offerClear f s) :=
  .ite (keeps_officePush s _ _) fun _ => keeps_officeOverrun s

theorem keeps_offerReserved (k : OfficeKind) (f : EthFrame) (s : State) : Keeps s (offerReserved k f s) :=
  .ite (keeps_officePush s _ _) fun _ => keeps_officeOverrun s

theorem keeps_sendReply (dst : Mac) (tag : BitVec 16) (code : Byte) (st : Status) (payload : List Byte) (s : State) :
    Keeps s (sendReply dst tag code st payload s) := keeps_offerReserved _ _ s

theorem keeps_cascadeList (s : State) (l : List CascadeEntry) (h : l.length ≤ 16 ∨ l.length ≤ s.cascadeList.length) :
    Keeps s { s with cascadeList := l } :=
  ⟨⟨rfl, id, id, fun ⟨hold, office, cascade⟩ => ⟨hold, office, h.elim id fun h => h.trans cascade⟩, id, id, id, id, id⟩, id⟩

theorem keeps_cascadeForward (f : EthFrame) (s : State) : Keeps s (cascadeForward f s).1 := by
  unfold cascadeForward
  split
  · split
    · refine keeps_cascadeList s _ (.inl ?_)
      simp only [List.length_append, List.length_cons, List.length_nil]
      omega
    · exact keeps_modCounters s fun c => { c with cascadeDrop := satAdd c.cascadeDrop 1 }
  · exact .refl s

end Sys2Proof.Proofs
end

section

namespace Sys2Proof.Proofs

open Sys2Proof Sys2Proof.Machine

/-! ### A tunnel entry replaced -/

theorem tun_setTun (s : State) (t : TunnelId) (x : Tunnel) (t' : TunnelId) :
    (s.setTun t x).tun t' = if t' = t then x else s.tun t' := by
  by_cases h : t' = t
  · rw [if_pos h, h, State.tun_setTun_self]
  · rw [if_neg h, State.tun_setTun_ne _ _ h]

theorem windows_setTun {s : State} {t : TunnelId} {x : Tunnel} (h : s.WindowsOk) (hx : TunnelWindows x) :
    (s.setTun t x).WindowsOk := by
  intro t'
  rw [tun_setTun]
  split
  · exact hx
  · exact h t'

theorem arithmetic_setTun {s : State} {t : TunnelId} {x : Tunnel} (h : s.ArithmeticOk) (hx : TunnelBounds x) :
    (s.setTun t x).ArithmeticOk := by
  refine ⟨h.1, fun t' => ?_⟩
  rw [tun_setTun]
  split
  · exact hx
  · exact h.2 t'

theorem waiting_setTun {s : State} {t : TunnelId} {x : Tunnel} (hqueue : x.egress = (s.tun t).egress)
    (hgroup : x.cfg.activeGroup = (s.tun t).cfg.activeGroup) (h : s.WaitingOk) : (s.setTun t x).WaitingOk := by
  intro g
  refine ⟨(h g).1, fun t' => ((h g).2 t').trans ?_⟩
  rw [tun_setTun]
  split
  · subst_vars
    rw [hqueue, hgroup]
  · rfl

/-- The state in which a derivation finds its tunnel belongs to those on the unit's list alone (R59). -/
theorem keyState_of_deriving {s : State} (h : s.DerivationsOk) {t : TunnelId} (ht : t ∈ s.deriving) :
    ∃ k : DerivationKind, (s.tun t).keyState = k.state := by
  obtain ⟨-, hqueue, hflight⟩ := h
  rcases List.mem_append.mp ht with ht | ht
  · obtain ⟨d, hd, howner⟩ := Option.bind_eq_some_iff.mp (Option.mem_toList.mp ht)
    exact ⟨d.kind, hflight d hd t howner⟩
  · obtain ⟨e, he, rfl⟩ := List.mem_map.mp ht
    exact ⟨e.kind, hqueue e he⟩

/-- A tunnel without a derivation is in neither BOOTSTRAP nor DERIVING. -/
def Underived (k : KeyState) : Prop := k ≠ .bootstrap ∧ ∀ g, k ≠ .deriv g

theorem not_deriving {s : State} (h : s.DerivationsOk) {t : TunnelId} (ht : Underived (s.tun t).keyState) : t ∉ s.deriving := by
  intro hmem
  obtain ⟨k, hk⟩ := keyState_of_deriving h hmem
  cases k with
  | bootstrap => exact ht.1 hk
  | generation target b n => exact ht.2 target hk

/-- The derivations of a state whose keying states differ only at tunnels that have none. -/
theorem derivations_of_states {s r : State} (h : s.DerivationsOk) (hqueue : r.kduQueue = s.kduQueue)
    (hflight : r.kduFlight = s.kduFlight) (hstates : ∀ t ∈ s.deriving, (r.tun t).keyState = (s.tun t).keyState) :
    r.DerivationsOk := by
  obtain ⟨hnodup, hq, hf⟩ := h
  refine ⟨?_, fun e he => ?_, fun d hd t ht => ?_⟩
  · simpa only [State.deriving, hqueue, hflight] using hnodup
  · rw [hqueue] at he
    rw [hstates e.tunnel (List.mem_append_right _ (List.mem_map_of_mem he)), hq e he]
  · rw [hflight] at hd
    rw [hstates t (List.mem_append_left _ (Option.mem_toList.mpr (Option.bind_eq_some_iff.mpr ⟨d, hd, ht⟩))), hf d hd t ht]

theorem derivations_setTun {s : State} {t : TunnelId} {x : Tunnel} (h : s.DerivationsOk)
    (hx : x.keyState = (s.tun t).keyState ∨ t ∉ s.deriving) : (s.setTun t x).DerivationsOk := by
  refine derivations_of_states h rfl rfl fun t' ht' => ?_
  rw [tun_setTun]
  split
  · subst_vars
    exact hx.elim id fun hx => absurd ht' hx
  · rfl

/-- An entry replaced by one with the same queue and group. -/
theorem core_setTun {s : State} {t : TunnelId} {x : Tunnel} (hqueue : x.egress = (s.tun t).egress)
    (hgroup : x.cfg.activeGroup = (s.tun t).cfg.activeGroup) (hwindows : TunnelWindows (s.tun t) → TunnelWindows x)
    (hbounds : s.ArithmeticOk → TunnelBounds x) : KeepsCore s (s.setTun t x) :=
  ⟨rfl, id, id, id, fun h => by
      have := usedSlots_setTun s t x
      rw [hqueue] at this
      have hslots : s.usedSlots ≤ 4096 := h
      change (s.setTun t x).usedSlots ≤ 4096
      omega,
    waiting_setTun hqueue hgroup, id, fun h => windows_setTun h (hwindows (h t)), fun h => arithmetic_setTun h (hbounds h)⟩

/-- An entry replaced by one with the same queue and group, in the same keying state or by a change that no derivation waits
for. -/
theorem keeps_setTun {s : State} {t : TunnelId} {x : Tunnel} (hqueue : x.egress = (s.tun t).egress)
    (hgroup : x.cfg.activeGroup = (s.tun t).cfg.activeGroup)
    (hkey : s.DerivationsOk → x.keyState = (s.tun t).keyState ∨ t ∉ s.deriving)
    (hwindows : TunnelWindows (s.tun t) → TunnelWindows x) (hbounds : s.ArithmeticOk → TunnelBounds x) :
    Keeps s (s.setTun t x) :=
  ⟨core_setTun hqueue hgroup hwindows hbounds, fun h => derivations_setTun h (hkey h)⟩

/-- A change of the fields that no promise of this part names. -/
theorem keeps_setTun_inert {s : State} {t : TunnelId} {x : Tunnel} (hqueue : x.egress = (s.tun t).egress)
    (hgroup : x.cfg.activeGroup = (s.tun t).cfg.activeGroup) (hkey : x.keyState = (s.tun t).keyState)
    (hwindows : TunnelWindows (s.tun t) → TunnelWindows x) (hbounds : TunnelBounds (s.tun t) → TunnelBounds x) :
    Keeps s (s.setTun t x) :=
  keeps_setTun hqueue hgroup (fun _ => .inl hkey) hwindows fun h => hbounds (h.2 t)

theorem keeps_modHealth {s : State} {t : TunnelId} {f : Health → Health}
    (h : s.ArithmeticOk → (f (s.tun t).health).InBounds) : Keeps s (s.modHealth t f) :=
  keeps_setTun rfl rfl (fun _ => by left; rfl) id fun hs => ⟨h hs, (hs.2 t).2⟩

theorem keeps_modTunCounters (t : TunnelId) (f : TunnelCounters → TunnelCounters) (s : State) :
    Keeps s (s.modTunCounters t f) :=
  keeps_setTun_inert rfl rfl rfl id id

theorem toOff_inBounds (h : Health) : h.toOff.InBounds := by
  simp [Health.toOff, Health.reset]

theorem toSeeding_inBounds {h : Health} (hb : h.InBounds) : h.toSeeding.InBounds := by
  obtain ⟨fast, slow, base, dev, -, seed, -, -⟩ := hb
  exact ⟨fast, slow, base, dev, by simp [Health.toSeeding], seed, Nat.zero_le _, by simp [Health.toSeeding]⟩

/-! ### Queues -/

theorem usedSlots_setList (s : State) (g : UplinkId) (l : List TunnelId) : (s.setList g l).usedSlots = s.usedSlots := rfl

/-- An entry replaced together with the list of its group: its derivation, windows and bounds, and what the entry and the list
say of each other. -/
theorem keeps_requeue {s r : State} {t : TunnelId} {x : Tunnel} {g : UplinkId} {l : List TunnelId}
    (hr : r = (s.setTun t x).setList g l) (hslots : s.SlotsOk → r.SlotsOk) (hwaiting : s.WaitingOk → r.WaitingOk)
    (hkey : s.DerivationsOk → x.keyState = (s.tun t).keyState ∨ t ∉ s.deriving)
    (hwindows : TunnelWindows (s.tun t) → TunnelWindows x) (hbounds : TunnelBounds (s.tun t) → TunnelBounds x) :
    Keeps s r := by
  subst hr
  exact ⟨⟨rfl, id, id, id, hslots, hwaiting, id, fun h => windows_setTun h (hwindows (h t)),
    fun h => arithmetic_setTun h (hbounds (h.2 t))⟩, fun h => derivations_setTun h (hkey h)⟩

/-- What a list and the entries must say of each other after tunnel `t` has been given the entry `x` and the list of its group
the value `l` (R102). -/
theorem waiting_requeue {s : State} {t : TunnelId} {x : Tunnel} {l : List TunnelId} (h : s.WaitingOk)
    (hgroup : x.cfg.activeGroup = (s.tun t).cfg.activeGroup) (hnodup : l.Nodup) (hself : t ∈ l ↔ x.egress ≠ [])
    (hothers : ∀ t', t' ≠ t → (t' ∈ l ↔ t' ∈ s.list (s.tun t).cfg.activeGroup)) :
    ((s.setTun t x).setList (s.tun t).cfg.activeGroup l).WaitingOk := by
  intro g
  have htun (t' : TunnelId) : ((s.setTun t x).setList (s.tun t).cfg.activeGroup l).tun t' = (s.setTun t x).tun t' := rfl
  simp only [State.list_setList, htun, tun_setTun]
  by_cases hg : g = (s.tun t).cfg.activeGroup
  · rw [if_pos hg]
    refine ⟨hnodup, fun t' => ?_⟩
    by_cases ht : t' = t
    · rw [if_pos ht, ht, hself, hgroup, hg]
      simp
    · rw [if_neg ht, hothers t' ht, ← hg]
      exact (h g).2 t'
  · rw [if_neg hg]
    refine ⟨(h g).1, fun t' => ?_⟩
    by_cases ht : t' = t
    · rw [if_pos ht, ht, hgroup]
      exact ⟨fun hmem => absurd (((h g).2 t).mp hmem).2.symm hg, fun hx => absurd hx.2.symm hg⟩
    · rw [if_neg ht]
      exact (h g).2 t'

/-- The entry with the egress queue `q`. -/
def withQueue (q : List CarrierFrame) (x : Tunnel) : Tunnel := { x with egress := q }

theorem usedSlots_withQueue (s : State) (t : TunnelId) (q : List CarrierFrame) :
    (s.setTun t (withQueue q (s.tun t))).usedSlots + (s.tun t).egress.length = s.usedSlots + q.length :=
  usedSlots_setTun s t (withQueue q (s.tun t))

theorem not_mem_of_empty {s : State} (h : s.WaitingOk) {t : TunnelId} (hempty : (s.tun t).egress = []) (g : UplinkId) :
    t ∉ s.list g := fun hmem => (((h g).2 t).mp hmem).1 hempty

theorem nodup_concat {l : List TunnelId} {t : TunnelId} (h : l.Nodup) (ht : t ∉ l) : (l ++ [t]).Nodup :=
  List.nodup_append.mpr ⟨h, List.nodup_singleton t, fun _ ha _ hb hab => ht (List.mem_singleton.mp hb ▸ hab ▸ ha)⟩

theorem waiting_enqueue {s : State} (h : s.WaitingOk) (t : TunnelId) (f : CarrierFrame) : (enqueue t f s).WaitingOk := by
  by_cases hempty : (s.tun t).egress = []
  · have heq : enqueue t f s = (s.setTun t (withQueue [f] (s.tun t))).setList (s.tun t).cfg.activeGroup
        (s.list (s.tun t).cfg.activeGroup ++ [t]) := enqueue_of_empty t f s hempty
    rw [heq]
    exact waiting_requeue h rfl (nodup_concat (h _).1 (not_mem_of_empty h hempty _)) (by simp [withQueue])
      fun t' ht => by simp [ht]
  · rw [enqueue_of_waiting t f s hempty]
    refine fun g => ⟨(h g).1, fun t' => ((h g).2 t').trans ?_⟩
    rw [tun_setTun]
    split
    · subst_vars
      simp [hempty]
    · rfl

theorem keeps_enqueue {t : TunnelId} {f : CarrierFrame} {s : State} (hroom : s.freeSlots ≠ 0) : Keeps s (enqueue t f s) := by
  have hused := usedSlots_withQueue s t ((s.tun t).egress ++ [f])
  have hslots : (s.setTun t (withQueue ((s.tun t).egress ++ [f]) (s.tun t))).usedSlots ≤ 4096 := by
    simp only [State.freeSlots] at hroom
    simp only [List.length_append, List.length_cons, List.length_nil] at hused
    omega
  have hwaiting := fun h : s.WaitingOk => waiting_enqueue h t f
  by_cases hempty : (s.tun t).egress = []
  · rw [hempty, List.nil_append] at hslots
    have heq : enqueue t f s = (s.setTun t (withQueue [f] (s.tun t))).setList (s.tun t).cfg.activeGroup
        (s.list (s.tun t).cfg.activeGroup ++ [t]) := enqueue_of_empty t f s hempty
    exact keeps_requeue heq (fun _ => heq ▸ hslots) hwaiting (fun _ => by left; rfl) id id
  · rw [enqueue_of_waiting t f s hempty] at hwaiting ⊢
    exact ⟨⟨rfl, id, id, id, fun _ => hslots, hwaiting, id, fun h => windows_setTun h (h t),
      fun h => arithmetic_setTun h (h.2 t)⟩, fun h => derivations_setTun h (.inl rfl)⟩

theorem keeps_flush (t : TunnelId) (s : State) : Keeps s (flush t s) := by
  have heq : flush t s = (s.setTun t (withQueue [] (s.tun t))).setList (s.tun t).cfg.activeGroup
      ((s.list (s.tun t).cfg.activeGroup).filter (· ≠ t)) := rfl
  refine keeps_requeue heq (fun h => ?_) (fun h => ?_) (fun _ => by left; rfl) id id
  · have hused := usedSlots_withQueue s t []
    have hslots : s.usedSlots ≤ 4096 := h
    simp only [List.length_nil] at hused
    change (s.setTun t (withQueue [] (s.tun t))).usedSlots ≤ 4096
    omega
  · exact waiting_requeue (x := withQueue [] (s.tun t)) h rfl ((h _).1.filter _) (by simp [withQueue]) fun t' ht => by simp [ht]

/-! ### The entry into Dormant, and the head of a list -/

theorem enterDormant_keyState (b : Bool) (x : Tunnel) :
    (x.enterDormant b).keyState = x.keyState ∨ x.keyState = .keyed := by
  unfold Tunnel.enterDormant
  simp only []
  split
  · exact .inr (by simp_all)
  · exact .inl rfl

theorem enterDormant_windows (b : Bool) {x : Tunnel} (h : TunnelWindows x) : TunnelWindows (x.enterDormant b) := by
  unfold Tunnel.enterDormant
  simp only []
  split
  · exact ⟨h.1, by simp [Tunnel.dropGenerations], by simp [Tunnel.dropGenerations]⟩
  · exact h

theorem enterDormant_bounds (b : Bool) {x : Tunnel} (h : TunnelBounds x) : TunnelBounds (x.enterDormant b) := by
  unfold Tunnel.enterDormant
  simp only []
  split
  · exact ⟨toOff_inBounds _, Nat.zero_le _, Nat.zero_le _⟩
  · exact ⟨toOff_inBounds _, h.2⟩

theorem enterDormant_queue (b : Bool) (x : Tunnel) :
    (x.enterDormant b).egress = x.egress ∧ (x.enterDormant b).cfg = x.cfg := by
  unfold Tunnel.enterDormant
  simp only []
  split <;> exact ⟨rfl, rfl⟩

theorem underived_of_keyed {k : KeyState} (h : k = .keyed) : Underived k := h ▸ ⟨nofun, nofun⟩

theorem keeps_enterDormant {t : TunnelId} {s : State} (b : Bool) : Keeps s (s.setTun t ((s.tun t).enterDormant b)) := by
  refine keeps_setTun (enterDormant_queue b _).1 (by rw [(enterDormant_queue b _).2]) (fun h => ?_) (enterDormant_windows b)
    fun h => enterDormant_bounds b (h.2 t)
  exact (enterDormant_keyState b (s.tun t)).imp id fun hkeyed => not_deriving h (underived_of_keyed hkeyed)

theorem keeps_enterIfWaiting (t : TunnelId) (s : State) : Keeps s (enterIfWaiting t s) :=
  .ite (fun _ => keeps_enterDormant _) fun _ => .refl s

theorem headLeft_queue (b : Bool) (left : List CarrierFrame) (x : Tunnel) :
    (headLeft b left x).egress = left ∧ (headLeft b left x).cfg = x.cfg := by
  unfold headLeft
  simp only []
  split
  · exact enterDormant_queue b _
  · exact ⟨rfl, rfl⟩

theorem headLeft_keyState (b : Bool) (left : List CarrierFrame) (x : Tunnel) :
    (headLeft b left x).keyState = x.keyState ∨ x.keyState = .keyed := by
  unfold headLeft
  simp only []
  split
  · exact enterDormant_keyState b _
  · exact .inl rfl

theorem headLeft_windows (b : Bool) (left : List CarrierFrame) {x : Tunnel} (h : TunnelWindows x) :
    TunnelWindows (headLeft b left x) := by
  unfold headLeft
  simp only []
  split
  · exact enterDormant_windows b h
  · exact h

theorem headLeft_bounds (b : Bool) (left : List CarrierFrame) {x : Tunnel} (h : TunnelBounds x) :
    TunnelBounds (headLeft b left x) := by
  unfold headLeft
  simp only []
  split
  · exact enterDormant_bounds b h
  · exact h

/-- The slot of the oldest frame of the head tunnel is freed. -/
theorem usedSlots_takeHead {g : UplinkId} {t : TunnelId} {rest : List TunnelId} {f : CarrierFrame} {left : List CarrierFrame}
    {s : State} (hqueue : (s.tun t).egress = f :: left) : (takeHead g t rest left s).usedSlots + 1 = s.usedSlots := by
  have hused := usedSlots_setTun s t (headLeft (s.retained t) left (s.tun t))
  rw [(headLeft_queue _ _ _).1, hqueue, List.length_cons] at hused
  rw [takeHead_eq, usedSlots_setList]
  omega

theorem keeps_takeHead {g : UplinkId} {t : TunnelId} {rest : List TunnelId} {f : CarrierFrame} {left : List CarrierFrame}
    {s : State} (hlist : s.list g = t :: rest) (hqueue : (s.tun t).egress = f :: left) :
    Keeps s (takeHead g t rest left s) := by
  refine keeps_requeue (takeHead_eq g t rest left s) (fun h => ?_) (fun h => ?_) (fun h => ?_) (headLeft_windows _ _)
    (headLeft_bounds _ _)
  · have := usedSlots_takeHead (g := g) (rest := rest) hqueue
    have hslots : s.usedSlots ≤ 4096 := h
    change (takeHead g t rest left s).usedSlots ≤ 4096
    omega
  · obtain ⟨hnodup, hmem⟩ := h g
    have hgroup : (s.tun t).cfg.activeGroup = g := ((hmem t).mp (by simp [hlist])).2
    rw [hlist, List.nodup_cons] at hnodup
    rw [takeHead_eq]
    nth_rw 1 [← hgroup]
    refine waiting_requeue h (by rw [(headLeft_queue _ _ _).2]) ?_ ?_ fun t' ht => ?_
    · split
      · exact hnodup.2
      · exact nodup_concat hnodup.2 hnodup.1
    · rw [(headLeft_queue _ _ _).1]
      split
      · simp_all
      · simp_all
    · rw [hgroup, hlist]
      split <;> simp [ht]
  · exact (headLeft_keyState _ _ _).imp id fun hkeyed => not_deriving h (underived_of_keyed hkeyed)

/-! ### Uplinks, grants and discards -/

/-- The slots in use follow the transmission of an uplink that is replaced. -/
theorem usedSlots_setUplink (s : State) (u : UplinkId) (x : Uplink) :
    (s.setUplink u x).usedSlots + (s.uplink u).tx.toList.length = s.usedSlots + x.tx.toList.length := by
  have hcount (l : List Uplink) : (l.filter fun u => u.tx.isSome).length = (l.map fun u => u.tx.toList.length).sum := by
    induction l with
    | nil => rfl
    | cons a l ih => cases h : a.tx <;> simp [h, ih]; omega
  have hset : (s.setUplink u x).uplinks.toList.map (fun u => u.tx.toList.length)
      = (s.uplinks.toList.map fun u => u.tx.toList.length).set u.val x.tx.toList.length := by
    simp only [State.setUplink, Vector.toList_set, List.map_set]
  have hsum := sum_set (s.uplinks.toList.map fun u => u.tx.toList.length) u.val (by simp) x.tx.toList.length
  have hget : (s.uplinks.toList.map fun u => u.tx.toList.length)[u.val]'(by simp) = (s.uplink u).tx.toList.length := by
    simp [State.uplink]
  rw [hget] at hsum
  simp only [State.usedSlots, hcount, hset]
  change (s.tunnels.toList.map fun t => t.egress.length).sum + s.officeQueue.length + s.officeTx.toList.length + _ + _ = _
  omega

theorem keeps_setUplink {s : State} {u : UplinkId} {x : Uplink} (h : x.tx = (s.uplink u).tx ∨ x.tx = none) :
    Keeps s (s.setUplink u x) := by
  refine ⟨⟨rfl, id, id, id, fun hs => ?_, id, id, id, id⟩, id⟩
  have hused := usedSlots_setUplink s u x
  have hslots : s.usedSlots ≤ 4096 := hs
  change (s.setUplink u x).usedSlots ≤ 4096
  rcases h with h | h <;> rw [h] at hused
  · omega
  · simp only [Option.toList_none, List.length_nil] at hused
    omega

theorem keeps_modUplink (u : UplinkId) (f : Uplink → Uplink) (s : State) (h : ∀ x, (f x).tx = x.tx ∨ (f x).tx = none) :
    Keeps s (s.modUplink u f) := keeps_setUplink (h _)

theorem keeps_point (s : State) (g u : UplinkId) : Keeps s (s.point g u) := ⟨⟨rfl, id, id, id, id, id, id, id, id⟩, id⟩

/-- An uplink with frame `f` in transmission. -/
def transmitting (f : CarrierFrame) (x : Uplink) : Uplink := { x with tx := some f }

/-- A granted frame takes the slot that it had in its queue (R98, R103). -/
theorem keeps_grant {g : UplinkId} {t : TunnelId} {rest : List TunnelId} {f : CarrierFrame} {left : List CarrierFrame}
    {s : State} (hlist : s.list g = t :: rest) (hqueue : (s.tun t).egress = f :: left) (u : UplinkId) :
    Keeps s ((takeHead g t rest left s).modUplink u fun x => { x with tx := some f }) := by
  have htake := keeps_takeHead hlist hqueue
  refine ⟨⟨htake.pending, htake.faults, htake.indicator, htake.queues, fun hs => ?_, htake.waiting, htake.settings,
    htake.windows, htake.arithmetic⟩, htake.derivations⟩
  have hhead := usedSlots_takeHead (g := g) (rest := rest) hqueue
  have hused := usedSlots_setUplink (takeHead g t rest left s) u (transmitting f ((takeHead g t rest left s).uplink u))
  have hone : (transmitting f ((takeHead g t rest left s).uplink u)).tx.toList.length = 1 := rfl
  have hslots : s.usedSlots ≤ 4096 := hs
  change ((takeHead g t rest left s).setUplink u (transmitting f ((takeHead g t rest left s).uplink u))).usedSlots ≤ 4096
  omega

/-- The queue of the head tunnel of a list is not empty (R102), so a list never loses a tunnel without a frame. -/
theorem keeps_dropHead {g : UplinkId} {t : TunnelId} {rest : List TunnelId} {s : State} (hlist : s.list g = t :: rest)
    (hqueue : (s.tun t).egress = []) : Keeps s (s.setList g rest) :=
  ⟨⟨rfl, id, id, id, id, fun h => absurd hqueue (((h g).2 t).mp (by simp [hlist])).1, id, id, id⟩, id⟩

theorem keeps_grantOne (g : UplinkId) (s : State) : Keeps s (grantOne g s) := by
  unfold grantOne
  split
  · rename_i t rest u hlist hu
    split
    · rename_i f left hqueue
      exact (keeps_grant hlist hqueue u).trans (keeps_point _ g u)
    · rename_i hqueue
      exact keeps_dropHead hlist hqueue
  · exact .refl s

theorem keeps_serve (g : UplinkId) (s : State) : Keeps s (serve g s) :=
  (((keeps_grantOne g s).trans (keeps_grantOne g _)).trans (keeps_grantOne g _)).trans (keeps_grantOne g _)

theorem keeps_serveAll (s : State) : Keeps s (serveAll s) :=
  (((keeps_serve 0 s).trans (keeps_serve 1 _)).trans (keeps_serve 2 _)).trans (keeps_serve 3 _)

theorem keeps_settle (t : TunnelId) (s : State) : Keeps s (settle t s) :=
  (keeps_serveAll s).trans (keeps_enterIfWaiting t _)

theorem keeps_discardOne (g : UplinkId) (s : State) : Keeps s (discardOne g s) := by
  unfold discardOne
  split
  · exact .refl s
  · split
    · rename_i t rest u hlist hu
      split
      · rename_i f left hqueue
        exact ((keeps_takeHead hlist hqueue).trans (keeps_modUplink u _ _ fun _ => by left; rfl)).trans (keeps_point _ g u)
      · rename_i hqueue
        exact keeps_dropHead hlist hqueue
    · exact .refl s

theorem keeps_loseTx (u : UplinkId) (s : State) : Keeps s (loseTx u s) :=
  .ite (fun _ => keeps_modUplink u _ s fun _ => by right; rfl) fun _ => .refl s

theorem keeps_enterErrored (u : UplinkId) (c : ErrorCause) (s : State) : Keeps s (enterErrored u c s) := by
  unfold enterErrored
  exact (((keeps_loseTx u s).trans (keeps_modUplink u _ _ fun _ => by left; rfl)).trans (keeps_post _ _ _ _)).trans
    (keeps_modUplink u _ _ fun _ => by left; rfl)

theorem keeps_autoReturn (u : UplinkId) (s : State) : Keeps s (autoReturn u s) := by
  unfold autoReturn
  exact ((keeps_modUplink u _ s fun _ => by left; rfl).trans (keeps_post _ _ _ _)).trans
    (keeps_modUplink u _ _ fun _ => by left; rfl)

theorem keeps_deliver (u : UplinkId) (f : CarrierFrame) (s : State) : Keeps s (deliver u f s) :=
  keeps_modUplink u _ s fun _ => by left; rfl

end Sys2Proof.Proofs
end

section

namespace Sys2Proof.Proofs

open Sys2Proof Sys2Proof.Machine

/-! ### Enciphering and the dormancy timer -/

theorem curWindow_kept {x : Tunnel} {c c' : CurGen} (hcur : x.cur = some c) (hctx : c'.ctx = c.ctx) (h : TunnelWindows x) :
    TunnelWindows { x with cur := some c' } := by
  refine ⟨h.1, ?_, h.2.2⟩
  rintro _ ⟨rfl⟩
  rw [hctx]
  exact h.2.1 c hcur

theorem gen0Window_kept {x : Tunnel} {g g' : Gen0} (hg : x.gen0 = some g) (hctx : g'.ctx = g.ctx) (h : TunnelWindows x) :
    TunnelWindows { x with gen0 := some g' } := by
  refine ⟨?_, h.2⟩
  rintro _ ⟨rfl⟩
  rw [hctx]
  exact h.1 g hg

theorem keeps_sendCurrent {t : TunnelId} {kind : BitVec 4} {body : List Byte} {s r : State}
    (h : sendCurrent t kind body s = some r) : Keeps s r := by
  obtain ⟨c, hcur, -, hroom, rfl⟩ := sendCurrent_some h
  refine (keeps_setTun_inert (by rfl) (by rfl) (by rfl) (curWindow_kept hcur (by rfl)) (by exact id)).trans (keeps_enqueue ?_)
  rw [freeSlots_setTun (by rfl)]
  exact hroom

theorem keeps_sendOffer {t : TunnelId} {target : BitVec 8} {nonce : BitVec 128} {s r : State}
    (h : sendOffer t target nonce s = some r) : Keeps s r := by
  obtain ⟨g, hg, -, hroom, rfl⟩ := sendOffer_some h
  refine (keeps_setTun_inert (by rfl) (by rfl) (by rfl) (gen0Window_kept hg (by rfl)) (by exact id)).trans (keeps_enqueue ?_)
  rw [freeSlots_setTun (by rfl)]
  exact hroom

theorem keeps_armDormancy (t : TunnelId) (s : State) : Keeps s (armDormancy t s) := keeps_setTun_inert rfl rfl rfl id id

theorem keeps_dataActivity (t : TunnelId) (s : State) : Keeps s (dataActivity t s) :=
  .ite (fun _ => keeps_armDormancy t s) fun _ => .refl s

theorem spendCurrent_windows {x : Tunnel} (h : TunnelWindows x) : TunnelWindows x.spendCurrent := by
  cases hcur : x.cur with
  | none => exact ⟨h.1, by simp [Tunnel.spendCurrent, hcur], h.2.2⟩
  | some c =>
    have := curWindow_kept (c' := { c with lastSeq := c.lastSeq + 1 }) hcur rfl h
    simpa only [Tunnel.spendCurrent, hcur, Option.map_some] using this

theorem keeps_encipherData {t : TunnelId} {c : CurGen} {f : EthFrame} {s : State} (hroom : s.freeSlots ≠ 0) :
    Keeps s (encipherData t c f s) := by
  unfold encipherData
  refine ((keeps_setTun_inert (by rfl) (by rfl) (by rfl) ?_ ?_).trans (keeps_enqueue ?_)).trans (keeps_dataActivity t _)
  · exact fun h => spendCurrent_windows h
  · exact fun h => ⟨h.1, h.2.1, Nat.min_le_right _ _⟩
  · rw [freeSlots_setTun (by rfl)]
    exact hroom

/-! ### The derivation unit -/

/-- Entries that leave the queue, and a derivation in flight that ends or loses its owner, leave the rest in accord (R61). -/
theorem derivations_of_fewer {s r : State} (h : s.DerivationsOk) (hqueue : r.kduQueue.Sublist s.kduQueue)
    (hflight : ∀ d ∈ r.kduFlight, ∀ t ∈ d.owner, ∃ d0 ∈ s.kduFlight, d0.owner = some t ∧ d0.kind = d.kind)
    (htunnels : r.tunnels = s.tunnels) : r.DerivationsOk := by
  obtain ⟨hnodup, hq, hf⟩ := h
  have htun (t : TunnelId) : r.tun t = s.tun t := by simp only [State.tun, htunnels]
  have howner : ((r.kduFlight.bind KduFlight.owner).toList).Sublist (s.kduFlight.bind KduFlight.owner).toList := by
    cases hr : r.kduFlight.bind KduFlight.owner with
    | none => exact List.nil_sublist _
    | some t =>
      obtain ⟨d, hd, hown⟩ := Option.bind_eq_some_iff.mp hr
      obtain ⟨d0, hd0, hown0, -⟩ := hflight d hd t hown
      rw [Option.bind_eq_some_iff.mpr ⟨d0, hd0, hown0⟩]
  refine ⟨hnodup.sublist (howner.append (hqueue.map _)), fun e he => ?_, fun d hd t ht => ?_⟩
  · rw [htun]
    exact hq e (hqueue.subset he)
  · obtain ⟨d0, hd0, hown0, hkind⟩ := hflight d hd t ht
    rw [htun, hf d0 hd0 t hown0, hkind]

/-- A change of the derivation unit alone. -/
theorem keeps_unit {s : State} {queue : List KduEntry} {flight : Option KduFlight}
    (h : s.DerivationsOk → State.DerivationsOk { s with kduQueue := queue, kduFlight := flight }) :
    Keeps s { s with kduQueue := queue, kduFlight := flight } :=
  ⟨⟨rfl, id, id, id, id, id, id, id, id⟩, h⟩

theorem keeps_fewer {s : State} {queue : List KduEntry} {flight : Option KduFlight} (hqueue : queue.Sublist s.kduQueue)
    (hflight : ∀ d ∈ flight, ∀ t ∈ d.owner, ∃ d0 ∈ s.kduFlight, d0.owner = some t ∧ d0.kind = d.kind) :
    Keeps s { s with kduQueue := queue, kduFlight := flight } :=
  keeps_unit fun h => derivations_of_fewer h hqueue hflight rfl

/-- A derivation in flight whose owner may be taken away is, where it still has one, as it was. -/
theorem owner_of_map {flight : Option KduFlight} {p : KduFlight → Prop} [DecidablePred p] {d : KduFlight}
    (hd : d ∈ flight.map fun d => if p d then { d with owner := none } else d) {t : TunnelId} (ht : t ∈ d.owner) :
    ∃ d0 ∈ flight, d0.owner = some t ∧ d0.kind = d.kind := by
  obtain ⟨d0, hd0, rfl⟩ := Option.map_eq_some_iff.mp hd
  split at ht
  · simp at ht
  · rename_i hp
    exact ⟨d0, hd0, ht, by rw [if_neg hp]⟩

theorem keeps_abortDerivation (t : TunnelId) (s : State) : Keeps s (abortDerivation t s) :=
  keeps_fewer List.filter_sublist fun _ hd _ ht => owner_of_map hd ht

theorem keeps_abortGeneration (t : TunnelId) (s : State) : Keeps s (abortGeneration t s) :=
  keeps_fewer List.filter_sublist fun _ hd _ ht => owner_of_map hd ht

theorem abortDerivation_not_deriving (t : TunnelId) (s : State) : t ∉ (abortDerivation t s).deriving := by
  obtain ⟨hqueue, hflight⟩ := abortDerivation_clear t s
  intro ht
  rcases List.mem_append.mp ht with ht | ht
  · obtain ⟨d, hd, howner⟩ := Option.bind_eq_some_iff.mp (Option.mem_toList.mp ht)
    exact hflight d hd howner
  · obtain ⟨e, he, hown⟩ := List.mem_map.mp ht
    exact hqueue e he hown

/-- After the abort of a tunnel's generation derivations it is among the derivations with a bootstrap alone (R23, R78). -/
theorem abortGeneration_deriving {t : TunnelId} {s : State} (h : s.DerivationsOk)
    (hkey : (s.tun t).keyState ≠ .bootstrap) : t ∉ (abortGeneration t s).deriving := by
  have hgen (k : DerivationKind) (hk : (s.tun t).keyState = k.state) : k.isGeneration = true := by
    cases k with
    | bootstrap => exact absurd hk hkey
    | generation target b n => rfl
  obtain ⟨-, hqueue, hflight⟩ := h
  intro ht
  rcases List.mem_append.mp ht with ht | ht
  · obtain ⟨d, hd, howner⟩ := Option.bind_eq_some_iff.mp (Option.mem_toList.mp ht)
    obtain ⟨d0, hd0, rfl⟩ := Option.map_eq_some_iff.mp hd
    split at howner
    · simp at howner
    · rename_i hcond
      exact hcond ⟨howner, hgen d0.kind (hflight d0 hd0 t howner)⟩
  · obtain ⟨e, he, rfl⟩ := List.mem_map.mp ht
    obtain ⟨hmem, hcond⟩ := List.mem_filter.mp he
    simp [hgen e.kind (hqueue e hmem)] at hcond

theorem keeps_queueDerivation {t : TunnelId} {k : DerivationKind} {s : State}
    (h : s.DerivationsOk → t ∉ s.deriving ∧ (s.tun t).keyState = k.state) : Keeps s (queueDerivation t k s) := by
  refine ⟨⟨rfl, id, id, id, id, id, id, id, id⟩, fun hs => ?_⟩
  obtain ⟨hnot, hkey⟩ := h hs
  obtain ⟨hnodup, hq, hf⟩ := hs
  have hlist : (queueDerivation t k s).deriving = s.deriving ++ [t] := by
    simp only [State.deriving, queueDerivation, List.map_append, List.map_cons, List.map_nil, List.append_assoc]
  refine ⟨hlist ▸ nodup_concat hnodup hnot, fun e he => ?_, hf⟩
  rcases List.mem_append.mp he with he | he
  · exact hq e he
  · rw [List.mem_singleton.mp he]
    exact hkey

theorem keeps_startDerivation (s : State) : Keeps s (startDerivation s) := by
  unfold startDerivation
  split
  · rename_i e rest hflight hqueue
    have hrest : rest.Sublist s.kduQueue := hqueue ▸ List.sublist_cons_self e rest
    split
    · refine keeps_unit fun ⟨hnodup, hq, _⟩ => ⟨?_, fun e' he' => hq e' (hrest.subset he'), ?_⟩
      · simpa [State.deriving, hflight, hqueue] using hnodup
      · rintro _ ⟨rfl⟩ _ ⟨rfl⟩
        exact hq e (hqueue ▸ List.mem_cons_self)
    · exact keeps_fewer (s := s) (flight := s.kduFlight) hrest fun d hd _ ht => ⟨d, hd, ht, rfl⟩
  · exact .refl s

/-! ### The exchange -/

theorem underived_of_unkeyed {k : KeyState} (h : k = .unkeyed) : Underived k := h ▸ ⟨nofun, nofun⟩

theorem underived_of_offering {k : KeyState} {g : BitVec 8} (h : k = .offering g) : Underived k := h ▸ ⟨nofun, nofun⟩

theorem underived_of_renewable {k : KeyState} (h : k.renewable = true) : Underived k := by
  cases k with
  | keyed | pending | held => exact ⟨nofun, nofun⟩
  | _ => exact absurd h (by simp [KeyState.renewable])

theorem dropGenerations_bounds {x : Tunnel} (h : x.health.InBounds) : TunnelBounds x.dropGenerations :=
  ⟨h, Nat.zero_le _, Nat.zero_le _⟩

theorem dropGenerations_windows {x : Tunnel} (h : TunnelWindows x) : TunnelWindows x.dropGenerations :=
  ⟨h.1, nofun, nofun⟩

theorem keeps_exhaustSecret (t : TunnelId) (s : State) : Keeps s (exhaustSecret t s) := by
  unfold exhaustSecret
  refine (((keeps_abortDerivation t s).trans (keeps_flush t _)).trans (keeps_setTun (by rfl) (by rfl) ?_ ?_ ?_)).trans
    (keeps_postTunnel _ _ _ _)
  · exact fun _ => .inr (abortDerivation_not_deriving t s)
  · exact fun _ => ⟨nofun, nofun, nofun⟩
  · exact fun _ => ⟨toOff_inBounds _, Nat.zero_le _, Nat.zero_le _⟩

theorem keeps_holdNonce (t : TunnelId) (n : BitVec 128) (s : State) : Keeps s (holdNonce t n s) :=
  keeps_setTun_inert rfl rfl rfl id id

theorem keeps_attempt (t : TunnelId) (target : BitVec 8) (s : State) : Keeps s (attempt t target s) := by
  have hdrawn : Keeps s (drawn s) := ⟨⟨rfl, id, id, id, id, id, id, id, id⟩, id⟩
  rw [attempt_eq]
  split
  · exact hdrawn.trans (keeps_holdNonce t _ _)
  · rename_i s2 hsend
    exact (hdrawn.trans (keeps_sendOffer hsend)).trans
      (.ite (fun _ => keeps_exhaustSecret t s2) fun _ => keeps_holdNonce t _ s2)

theorem keeps_startInitialKeying (t : TunnelId) (s : State) : Keeps s (startInitialKeying t s) := by
  refine .ite (fun h => Keeps.trans ?_ (keeps_attempt t 1 _)) fun _ => .refl s
  exact keeps_setTun rfl rfl (fun hs => .inr (not_deriving hs (underived_of_unkeyed h.2))) id fun hs => hs.2 t

theorem keeps_startRenewal (t : TunnelId) (s : State) : Keeps s (startRenewal t s) := by
  unfold startRenewal
  split
  · refine .ite (fun h => Keeps.trans ?_ (keeps_attempt t _ _)) fun _ => .refl s
    exact keeps_setTun rfl rfl (fun hs => .inr (not_deriving hs (underived_of_renewable h))) id fun hs => hs.2 t
  · exact .refl s

theorem keeps_failExchange {t : TunnelId} {g : BitVec 8} {s : State} (h : (s.tun t).keyState = .offering g) :
    Keeps s (failExchange t g s) := by
  unfold failExchange
  refine ((keeps_setTun_inert (by rfl) (by rfl) (by rfl) (by exact id) (by exact id)).trans (keeps_postTunnel _ _ _ _)).trans
    (keeps_setTun (by rfl) (by rfl) ?_ (by exact id) ?_)
  · refine fun hs => .inr (not_deriving hs (underived_of_offering (g := g) ?_))
    rw [postTunnel, post_tun, State.tun_setTun_self]
    exact h
  · exact fun hs => hs.2 t

theorem keeps_takeAccept (t : TunnelId) (target : BitVec 8) (nonce shopNonce : BitVec 128) (s : State) :
    Keeps s (takeAccept t target nonce shopNonce s) := by
  refine .ite (fun h => ?_) fun _ => keeps_modTunCounters t _ s
  have hfree (hs : s.DerivationsOk) : t ∉ s.deriving := not_deriving hs (underived_of_offering h.1)
  have hset : Keeps s (s.modTun t fun x => { x with nonce := none, attempts := 0, keyState := .deriv target }) :=
    keeps_setTun rfl rfl (fun hs => .inr (hfree hs)) id fun hs => hs.2 t
  refine ⟨(hset.toKeepsCore).trans ⟨rfl, id, id, id, id, id, id, id, id⟩, fun hs => ?_⟩
  exact (keeps_queueDerivation (t := t) (k := .generation target nonce shopNonce)
    (s := s.modTun t fun x => { x with nonce := none, attempts := 0, keyState := .deriv target })
    fun _ => ⟨hfree hs, congrArg Tunnel.keyState (State.tun_setTun_self s t _)⟩).derivations (hset.derivations hs)

theorem keeps_takeAsk (t : TunnelId) (s : State) : Keeps s (takeAsk t s) :=
  .ite (fun _ => keeps_startRenewal t s) fun _ => keeps_startInitialKeying t s

/-- A change of the keying state of a tunnel that awaits a derivation, once that derivation is over: every promise but the one of
the derivations is kept at any rate, and that one too where the tunnel is among the derivations no more. -/
theorem keeps_completeBootstrap {t : TunnelId} {i : KdfInputs} {s : State} :
    KeepsCore s (completeBootstrap t i s)
      ∧ (t ∉ s.deriving → s.DerivationsOk → (completeBootstrap t i s).DerivationsOk) := by
  by_cases hkey : (s.tun t).keyState = .bootstrap
  · have hwindows (h : TunnelWindows (s.tun t)) : TunnelWindows { s.tun t with
        gen0 := some { epoch := i.epoch, ctx := KeyContext.fresh i, lastSeq := 0 }, keyState := .unkeyed } := by
      refine ⟨?_, h.2⟩
      rintro _ ⟨rfl⟩
      exact ⟨List.nodup_nil, nofun⟩
    have hcore := core_setTun (s := s) (t := t) (x := { s.tun t with
      gen0 := some { epoch := i.epoch, ctx := KeyContext.fresh i, lastSeq := 0 }, keyState := .unkeyed }) rfl rfl hwindows
      fun hs => hs.2 t
    have htail : Keeps (s.setTun t { s.tun t with
        gen0 := some { epoch := i.epoch, ctx := KeyContext.fresh i, lastSeq := 0 }, keyState := .unkeyed })
        (completeBootstrap t i s) := by
      rw [completeBootstrap, if_pos hkey]
      exact .ite (fun _ => .refl _) fun _ => keeps_startInitialKeying t _
    exact ⟨hcore.trans htail.toKeepsCore, fun hfree hs => htail.derivations (derivations_setTun hs (.inr hfree))⟩
  · rw [completeBootstrap, if_neg hkey]
    exact ⟨(Keeps.refl s).toKeepsCore, fun _ => id⟩

/-! ### Erasing, installing and disabling -/

/-- The state of keying after a disable or an erase, once the tunnel's generation derivations are aborted (R23, R78). -/
theorem keeps_unkeyed {t : TunnelId} {s : State} {k : KeyState} (hk : (s.tun t).keyState = .bootstrap → k = .bootstrap)
    {x : Tunnel} (hx : x.keyState = k) (hqueue : x.egress = (s.tun t).egress)
    (hgroup : x.cfg.activeGroup = (s.tun t).cfg.activeGroup) (hwindows : TunnelWindows (s.tun t) → TunnelWindows x)
    (hbounds : TunnelBounds (s.tun t) → TunnelBounds x) : Keeps s ((abortGeneration t s).setTun t x) := by
  have habort := keeps_abortGeneration t s
  have hcore := core_setTun (s := abortGeneration t s) (x := x) hqueue hgroup hwindows fun hs => hbounds (hs.2 t)
  refine ⟨habort.toKeepsCore.trans hcore, fun hs => derivations_setTun (habort.derivations hs) ?_⟩
  by_cases hboot : (s.tun t).keyState = .bootstrap
  · exact .inl (hx.trans ((hk hboot).trans hboot.symm))
  · exact .inr (abortGeneration_deriving hs hboot)

theorem keeps_healthOff (t : TunnelId) (s : State) : Keeps s (s.modTun t fun x => { x with health := x.health.toOff }) :=
  keeps_setTun rfl rfl (fun _ => .inl rfl) id fun hs => ⟨toOff_inBounds _, (hs.2 t).2⟩

theorem keeps_eraseGenerations (t : TunnelId) (s : State) : Keeps s (eraseGenerations t s) := by
  refine Keeps.trans (Keeps.trans ?_ (keeps_flush t _)) (keeps_healthOff t _)
  refine .ite (fun _ => ?_) fun h => ?_
  · exact keeps_setTun_inert rfl rfl rfl id fun hs => ⟨hs.1, hs.2.1, Nat.zero_le _⟩
  · exact keeps_unkeyed (fun hboot => absurd (.inr hboot) h) rfl rfl rfl dropGenerations_windows
      fun hs => dropGenerations_bounds hs.1

theorem keeps_eraseAll (t : TunnelId) (s : State) : Keeps s (eraseAll t s) := by
  unfold eraseAll
  refine ((keeps_eraseGenerations t s).trans (keeps_abortDerivation t _)).trans (keeps_setTun (by rfl) (by rfl) ?_ ?_ ?_)
  · exact fun _ => .inr (abortDerivation_not_deriving t _)
  · exact fun h => ⟨nofun, h.2⟩
  · exact fun hs => hs.2 t

theorem keeps_installSecret (t : TunnelId) (m : MasterSecret) (s : State) : Keeps s (installSecret t m s) := by
  unfold installSecret
  refine (((keeps_abortDerivation t s).trans (keeps_flush t _)).trans (keeps_setTun (by rfl) (by rfl) ?_ ?_ ?_)).trans
    (keeps_queueDerivation ?_)
  · exact fun _ => .inr (abortDerivation_not_deriving t s)
  · exact fun _ => ⟨nofun, nofun, nofun⟩
  · exact fun _ => ⟨toOff_inBounds _, Nat.zero_le _, Nat.zero_le _⟩
  · exact fun _ => ⟨abortDerivation_not_deriving t s, congrArg Tunnel.keyState (State.tun_setTun_self _ t _)⟩

theorem unkeyedFrom_bootstrap {k : KeyState} (h : k = .bootstrap) : k.unkeyedFrom = .bootstrap := by rw [h]; rfl

/-- The entry of a disabled tunnel but for its queue (R23, R140). -/
def disabled (x : Tunnel) : Tunnel :=
  { x.dropGenerations with
    cfg := { x.cfg with enabled := false }
    keyState := x.keyState.unkeyedFrom
    dormant := false
    renewBefore := false
    dormancyExpiry := none
    dormancyDue := false
    health := x.health.toOff }

/-- A disable changes the entry and then flushes its queue, or the other way round. -/
theorem disableTunnel_eq (t : TunnelId) (s : State) :
    disableTunnel t s = flush t ((abortGeneration t s).setTun t (disabled (s.tun t))) := by
  rw [disableTunnel, State.modTun, flush_tun, flush, flush, State.modTun, State.modTun, State.tun_setTun_self,
    State.setTun_setTun, setList_setTun, State.setTun_setTun]
  rfl

theorem keeps_disableTunnel (t : TunnelId) (s : State) : Keeps s (disableTunnel t s) := by
  rw [disableTunnel_eq]
  refine (keeps_unkeyed (k := (s.tun t).keyState.unkeyedFrom) (x := disabled (s.tun t)) unkeyedFrom_bootstrap rfl rfl rfl ?_ ?_).trans (keeps_flush t _)
  · exact dropGenerations_windows
  · exact fun _ => ⟨toOff_inBounds _, Nat.zero_le _, Nat.zero_le _⟩

/-! ### The Renewal Scheduler -/

theorem keeps_stepped (s : State) : Keeps s (stepped s) :=
  ⟨⟨rfl, id, id, id, id, id,
    fun ⟨profiles, offset, lfsr, base, range, interval, holdoff, overflow, label⟩ =>
      ⟨profiles, offset, lfsrStep_ne_zero lfsr, base, range, interval, holdoff, overflow, label⟩, id, id⟩, id⟩

theorem keeps_enterPending {t : TunnelId} {s : State} (h : (s.tun t).keyState = .keyed) : Keeps s (enterPending t s) := by
  refine (keeps_stepped s).trans (keeps_setTun (s := stepped s) rfl rfl (fun hs => .inr ?_) id fun hs => hs.2 t)
  exact not_deriving hs (underived_of_keyed h)

theorem keyed_of_dueTestable {x : Tunnel} (h : x.dueTestable = true) : x.keyState = .keyed := ((dueTestable_iff x).mp h).2.2.1

theorem keeps_dueTest (s : State) (t : TunnelId) : Keeps s (dueTest s t) := by
  unfold dueTest
  split
  · refine .ite (fun h => ?_) fun _ => .refl s
    have hkeyed := keyed_of_dueTestable (Bool.and_eq_true_iff.mp h).1
    refine .ite (fun _ => ?_) fun _ => keeps_enterPending hkeyed
    exact keeps_setTun rfl rfl (fun hs => .inr (not_deriving hs (underived_of_keyed hkeyed))) id fun hs => hs.2 t
  · exact .refl s

theorem keeps_closingTest (t : TunnelId) (s : State) : Keeps s (closingTest t s) := by
  unfold closingTest
  split
  · exact .ite (fun h => keeps_enterPending (keyed_of_dueTestable h.1)) fun _ => .refl s
  · exact .refl s

end Sys2Proof.Proofs
end

section

namespace Sys2Proof.Proofs

open Sys2Proof Sys2Proof.Machine

/-! ### Probes and releases -/

theorem keeps_armProbe (t : TunnelId) (s : State) : Keeps s (armProbe t s) := keeps_modHealth fun hs => (hs.2 t).1

theorem keeps_toSeeding (t : TunnelId) (s : State) : Keeps s (s.modHealth t Health.toSeeding) :=
  keeps_modHealth fun hs => toSeeding_inBounds (hs.2 t).1

theorem keeps_releaseDelay (t : TunnelId) (cause : BitVec 32) (s : State) : Keeps s (releaseDelay t cause s) :=
  (keeps_postTunnel _ t cause s).trans (keeps_toSeeding t _)

theorem keeps_silentReleased (t : TunnelId) (s : State) : Keeps s (silentReleased t s) :=
  .ite (fun _ => keeps_startRenewal t s) fun _ => .refl s

theorem keeps_releaseSilent (t : TunnelId) (cause : BitVec 32) (s : State) : Keeps s (releaseSilent t cause s) :=
  ((keeps_postTunnel _ t cause s).trans (keeps_toSeeding t _)).trans (keeps_silentReleased t _)

theorem silenced_inBounds {x : Tunnel} (hb : x.health.InBounds) : (silenced x).health.InBounds := by
  obtain ⟨fast, slow, base, dev, comp, seed, -, -⟩ := hb
  exact ⟨fast, slow, base, dev, comp, seed, Nat.zero_le _, nofun⟩

theorem keeps_takeMiss (t : TunnelId) (number : BitVec 8) (s : State) : Keeps s (takeMiss t number s) := by
  refine .ite (fun _ => .refl s) fun _ => .ite (fun _ => keeps_modHealth fun hs => (hs.2 t).1) fun _ => ?_
  exact (keeps_modHealth fun hs => silenced_inBounds (hs.2 t).1).trans (keeps_postTunnel _ t _ _)

theorem keeps_missTest (t : TunnelId) (isSwitch : Bool) (s : State) : Keeps s (missTest t isSwitch s) := by
  unfold missTest
  split
  · exact .ite (fun _ => .refl s) fun _ => keeps_takeMiss t _ s
  · exact .refl s

theorem keeps_attemptProbe (t : TunnelId) (isSwitch : Bool) (s : State) : Keeps s (attemptProbe t isSwitch s) := by
  unfold attemptProbe
  split
  · simp only []
    split
    · exact .refl s
    · rename_i s1 hsend
      exact ((keeps_sendCurrent hsend).trans (keeps_missTest t isSwitch s1)).trans (keeps_modHealth fun hs => (hs.2 t).1)
  · exact .refl s

theorem keeps_dropStaleProbe (t : TunnelId) (s : State) : Keeps s (dropStaleProbe t s) :=
  keeps_modHealth fun hs => (hs.2 t).1

/-! ### Samples -/

theorem sum_le_of_forall_le {l : List Nat} {n : Nat} (h : ∀ a ∈ l, a ≤ n) : l.sum ≤ l.length * n := by
  simpa using List.sum_le_card_nsmul l n h

theorem mean_le {l : List Nat} {n : Nat} (h : ∀ a ∈ l, a ≤ n) : l.sum / l.length ≤ n :=
  Nat.div_le_of_le_mul (sum_le_of_forall_le h)

theorem seeds_append {l : List Nat} {n : Nat} (h : ∀ a ∈ l, 1 ≤ a ∧ a ≤ 65535) (hn : 1 ≤ n ∧ n ≤ 65535) :
    ∀ a ∈ l ++ [n], 1 ≤ a ∧ a ≤ 65535 := by
  intro a ha
  rcases List.mem_append.mp ha with ha | ha
  · exact h a ha
  · rwa [List.mem_singleton.mp ha]

theorem sixteenths_inBounds {n : Nat} (h : n ≤ 65535) : (0 : Int) ≤ 16 * n ∧ (16 : Int) * n ≤ 1048560 := by omega

theorem keeps_seedSample {t : TunnelId} {n : Nat} (hn : 1 ≤ n ∧ n ≤ 65535) (s : State) : Keeps s (seedSample t n s) := by
  refine .ite (fun _ => keeps_modHealth fun hs => ?_) fun _ => .ite (fun _ => keeps_modHealth fun hs => ?_) fun _ =>
    (keeps_modHealth fun hs => ?_).trans (keeps_postTunnel _ t _ _)
  · obtain ⟨fast, slow, base, dev, comp, seed, settle, seeds⟩ := (hs.2 t).1
    exact ⟨fast, slow, base, dev, comp, seed, settle, seeds_append seeds hn⟩
  · obtain ⟨fast, slow, base, dev, comp, seed, settle, seeds⟩ := (hs.2 t).1
    have hmean := mean_le fun a ha => (seeds_append seeds hn a ha).2
    have hfilter := sixteenths_inBounds hmean
    exact ⟨hfilter, hfilter, hfilter, ⟨by simp, by simp⟩, ⟨by simp, by simp⟩, hmean, settle, nofun⟩
  · obtain ⟨fast, slow, base, dev, comp, seed, settle, seeds⟩ := (hs.2 t).1
    exact ⟨fast, slow, base, dev, comp, seed, settle, nofun⟩

/-- A filter that starts within its bounds stays there (R127). -/
theorem filterStep_inBounds {current : Int} {n beta : Nat} (h : 0 ≤ current ∧ current ≤ 1048560) (hn : n ≤ 65535)
    (hbeta : beta ≤ 255) : 0 ≤ filterStep current (16 * n) beta ∧ filterStep current (16 * n) beta ≤ 1048560 := by
  have hbounds := filterStep_bounds current (16 * n) (by omega : beta ≤ 256)
  omega

theorem prof_inRange {s : State} (h : s.ProfilesOk) (t : TunnelId) : InRange (s.prof t) := h _

theorem filterHealth_inBounds {p : Profile} {n : Nat} {term : Int} {h : Health} (hp : InRange p) (hn : n ≤ 65535)
    (hterm : -2096864 ≤ term ∧ term ≤ 2096864) (hb : h.InBounds) : (filterHealth p n term h).InBounds := by
  obtain ⟨-, -, -, -, -, -, -, -, -, -, ⟨-, hfast⟩, -, ⟨-, hslow⟩, -⟩ := hp
  obtain ⟨fast, slow, base, dev, comp, seed, settle, seeds⟩ := hb
  have hf := filterStep_inBounds fast hn hfast
  have hs := filterStep_inBounds slow hn hslow
  exact ⟨hf, hs, base, ⟨by simp only [filterHealth]; omega, by simp only [filterHealth]; omega⟩,
    ⟨by simp only [filterHealth]; omega, by simp only [filterHealth]; omega⟩, seed, settle, seeds⟩

theorem keeps_baselineStep {t : TunnelId} {n : Nat} (hn : n ≤ 65535) (s : State) : Keeps s (baselineStep t n s) := by
  have hbase : Keeps s (s.modHealth t fun h => { h with base := filterStep h.base (16 * n) (s.prof t).baseBeta }) := by
    refine keeps_modHealth fun hs => ?_
    obtain ⟨fast, slow, base, dev, comp, seed, settle, seeds⟩ := (hs.2 t).1
    obtain ⟨-, -, -, -, -, -, -, -, -, -, -, ⟨-, hbeta⟩, -⟩ := prof_inRange hs.1 t
    exact ⟨fast, slow, filterStep_inBounds base hn hbeta, dev, comp, seed, settle, seeds⟩
  refine .ite (fun _ => .ite (fun _ => hbase) fun _ => ?_) fun _ => hbase
  exact (hbase.trans (keeps_postTunnel _ t _ _)).trans (keeps_toSeeding t _)

theorem keeps_decideDelay {t : TunnelId} {n : Nat} (hn : n ≤ 65535) (s : State) : Keeps s (decideDelay t n s) := by
  refine .ite (fun _ => ?_) fun _ => .ite (fun _ => ?_) fun _ => ?_
  · exact (keeps_modHealth fun hs => (hs.2 t).1).trans (keeps_baselineStep hn _)
  · exact keeps_modHealth fun hs => (hs.2 t).1
  · refine (keeps_modHealth fun hs => ?_).trans (keeps_postTunnel _ t _ _)
    obtain ⟨fast, slow, base, dev, comp, seed, -, seeds⟩ := (hs.2 t).1
    exact ⟨fast, slow, base, dev, comp, seed, Nat.zero_le _, seeds⟩

theorem settleHealth_inBounds (p : Profile) {h : Health} (hb : h.InBounds) : (settleHealth p h).InBounds := by
  obtain ⟨fast, slow, base, dev, comp, seed, -, seeds⟩ := hb
  refine ⟨fast, slow, base, dev, comp, seed, ?_, seeds⟩
  simp only [settleHealth]
  split <;> omega

theorem keeps_decideRelease (t : TunnelId) (s : State) : Keeps s (decideRelease t s) := by
  have hsettle : Keeps s (s.modHealth t (settleHealth (s.prof t))) :=
    keeps_modHealth fun hs => settleHealth_inBounds _ (hs.2 t).1
  exact .ite (fun _ => hsettle.trans (keeps_releaseDelay t 1 _)) fun _ =>
    .ite (fun _ => hsettle.trans (keeps_releaseDelay t 2 _)) fun _ => hsettle

theorem keeps_filterSample {t : TunnelId} {n : Nat} (hn : n ≤ 65535) (s : State) : Keeps s (filterSample t n s) := by
  have hfilter : Keeps s (s.modHealth t (filterHealth (s.prof t) n (compensation s t))) :=
    keeps_modHealth fun hs => filterHealth_inBounds (prof_inRange hs.1 t) hn
      (compensation_bounds (hs.2 (s.tun t).cfg.reference).1.2.2.2.1) (hs.2 t).1
  exact .ite (fun _ => hfilter.trans (keeps_decideRelease t _)) fun _ => hfilter.trans (keeps_decideDelay hn _)

theorem keeps_takeSample {t : TunnelId} {n : Nat} (hn : 1 ≤ n ∧ n ≤ 65535) (s : State) : Keeps s (takeSample t n s) := by
  unfold takeSample
  split
  · exact keeps_seedSample hn s
  · exact keeps_filterSample hn.2 s
  · exact keeps_filterSample hn.2 s
  · exact keeps_filterSample hn.2 s
  · exact .refl s
  · exact .refl s
  · exact .refl s

theorem sampleOf_bounds (arrival departure : BitVec 32) : 1 ≤ sampleOf arrival departure ∧ sampleOf arrival departure ≤ 65535 := by
  unfold sampleOf
  omega

theorem keeps_takeEcho (t : TunnelId) (number : BitVec 8) (arrival : BitVec 32) (s : State) :
    Keeps s (takeEcho t number arrival s) := by
  have hrelease : Keeps s (if (s.tun t).health.state = .faultedSilent then releaseSilent t 3 s else s) :=
    .ite (fun _ => keeps_releaseSilent t 3 s) fun _ => .refl s
  unfold takeEcho
  simp only []
  split
  · exact hrelease
  · refine .ite (fun _ => ?_) fun _ => hrelease
    exact (hrelease.trans (keeps_modHealth fun hs => (hs.2 t).1)).trans (keeps_takeSample (sampleOf_bounds _ _) _)

theorem keeps_healthShopChange (t : TunnelId) (old new : ShopState) (s : State) : Keeps s (healthShopChange t old new s) := by
  have hprobe : Keeps s (if (old = .closed) ↔ (new = .closed) then s else armProbe t s) :=
    .ite (fun _ => .refl s) fun _ => keeps_armProbe t s
  refine .ite (fun _ => .refl s) fun _ => .ite (fun _ => ?_) fun _ => hprobe
  refine Keeps.trans (.ite (fun _ => hprobe.trans (keeps_releaseSilent t 4 _)) fun _ => hprobe)
    (keeps_modHealth fun hs => (hs.2 t).1)

/-! ### The switch -/

theorem switchedTo_windows {new : CurGen} {grace : Tick} {x : Tunnel} (hnew : new.ctx.window.Ok) (h : TunnelWindows x) :
    TunnelWindows (switchedTo new grace x) := by
  refine ⟨h.1, ?_, ?_⟩
  · rintro _ ⟨rfl⟩
    exact hnew
  · intro p hp
    obtain ⟨c, hc, rfl⟩ := Option.map_eq_some_iff.mp hp
    exact h.2.1 c hc

theorem switchedTo_bounds {new : CurGen} {grace : Tick} {x : Tunnel} (h : TunnelBounds x) :
    TunnelBounds (switchedTo new grace x) := by
  refine ⟨?_, h.2⟩
  change (if x.cur = none then x.health.toSeeding else x.health).InBounds
  split
  · exact toSeeding_inBounds h.1
  · exact h.1

theorem newGeneration_window (target : BitVec 8) (i : KdfInputs) (nextAge : Tick) :
    (newGeneration target i nextAge).ctx.window.Ok := ⟨List.nodup_nil, nofun⟩

theorem keeps_unconfirmed (t : TunnelId) (s : State) : Keeps s (unconfirmed t s) := by
  unfold unconfirmed
  split
  · exact keeps_postTunnel _ t _ s
  · exact .refl s

theorem unconfirmed_deriving (t : TunnelId) (s : State) : (unconfirmed t s).deriving = s.deriving := by
  unfold unconfirmed
  split
  · simp only [State.deriving, post_kduFlight, post_kduQueue]
  · rfl

/-- The switch keeps every promise but the one of the derivations, and that one too where the tunnel's own is over. -/
theorem keeps_switchGeneration (t : TunnelId) (target : BitVec 8) (i : KdfInputs) (s : State) :
    KeepsCore s (switchGeneration t target i s)
      ∧ (t ∉ s.deriving → s.DerivationsOk → (switchGeneration t target i s).DerivationsOk) := by
  have hpost := keeps_unconfirmed t s
  have htun := unconfirmed_tun t s
  have hset : KeepsCore (unconfirmed t s) (switchKeys t target i s) := by
    rw [switchKeys_eq, ← htun]
    exact core_setTun rfl rfl (switchedTo_windows (newGeneration_window target i _)) fun hs => switchedTo_bounds (hs.2 t)
  have htail : Keeps (switchKeys t target i s) (switchGeneration t target i s) :=
    (keeps_attemptProbe t true _).trans (keeps_armProbe t _)
  refine ⟨(hpost.toKeepsCore.trans hset).trans htail.toKeepsCore, fun hfree hs => htail.derivations ?_⟩
  rw [switchKeys_eq]
  exact derivations_setTun (hpost.derivations hs) (.inr (unconfirmed_deriving t s ▸ hfree))

/-! ### The trading-state logic -/

theorem keeps_wake (t : TunnelId) (s : State) : Keeps s (wake t s) := by
  have hawake : Keeps s (s.modTun t fun x => { x with dormant := false }) := keeps_setTun_inert rfl rfl rfl id id
  have hwoken : Keeps s (if (s.tun t).cur.isSome then
      (s.modTun t fun x => { x with dormant := false }).modTun t fun x =>
        { x with renewBefore := true, health := { x.health.toSeeding with expiry := some s.tick } }
      else startInitialKeying t (s.modTun t fun x => { x with dormant := false })) := by
    refine .ite (fun _ => hawake.trans ?_) fun _ => hawake.trans (keeps_startInitialKeying t _)
    refine keeps_setTun_inert rfl rfl rfl id fun hs => ?_
    have hseeding := toSeeding_inBounds hs.1
    exact ⟨hseeding, hs.2⟩
  exact .ite (fun _ => .ite (fun _ => hwoken.trans (keeps_armDormancy t _)) fun _ => hwoken) fun _ => .refl s

theorem keeps_dormancyShopChange (t : TunnelId) (new : ShopState) (s : State) : Keeps s (dormancyShopChange t new s) :=
  .ite (fun _ => .ite (fun _ => keeps_armDormancy t s) fun _ => .refl s) fun _ => keeps_setTun_inert rfl rfl rfl id id

theorem keeps_changeShop (t : TunnelId) (new : ShopState) (s : State) : Keeps s (changeShop t new s) := by
  have hshop : Keeps s (s.modTun t fun x => { x with shop := new }) := keeps_setTun_inert rfl rfl rfl id id
  have hhealth := (Keeps.ite (c := (s.tun t).shop = .closed) (fun _ => hshop.trans (keeps_wake t _)) fun _ => hshop).trans
    (keeps_healthShopChange t (s.tun t).shop new _)
  exact (Keeps.ite (c := new = .closing) (fun _ => hhealth.trans (keeps_closingTest t _)) fun _ => hhealth).trans
    (keeps_dormancyShopChange t new _)

theorem keeps_setShop (t : TunnelId) (new : ShopState) (s : State) : Keeps s (setShop t new s) :=
  .ite (fun _ => .refl s) fun _ => keeps_changeShop t new s

theorem keeps_enableTunnel (t : TunnelId) (s : State) : Keeps s (enableTunnel t s) := by
  have henable : Keeps s (s.modTun t fun x => { x with cfg := { x.cfg with enabled := true } }) :=
    keeps_setTun_inert rfl rfl rfl id id
  exact (Keeps.ite (c := (s.tun t).shop = .closed) (fun _ => henable.trans (keeps_armDormancy t _)) fun _ => henable).trans
    (keeps_startInitialKeying t _)

theorem keeps_snoop (t : TunnelId) (f : EthFrame) (s : State) : Keeps s (snoop t f s) := by
  unfold snoop
  split
  · exact .ite (fun _ => keeps_setShop t _ s) fun _ => .refl s
  · exact .refl s

theorem keeps_dropNoKey (t : TunnelId) (s : State) : Keeps s (dropNoKey t s) :=
  .ite (fun _ => (keeps_modTunCounters t _ s).trans (keeps_startInitialKeying t _)) fun _ => keeps_modTunCounters t _ s

theorem keeps_checkAndEncipher (t : TunnelId) (c : CurGen) (f : EthFrame) (s : State) :
    Keeps s (checkAndEncipher t c f s) := by
  refine .ite (fun _ => (keeps_modTunCounters t _ s).trans (keeps_postTunnel _ t _ _)) fun _ =>
    .ite (fun _ => (keeps_modTunCounters t _ s).trans (keeps_postTunnel _ t _ _)) fun h => keeps_encipherData ?_
  simp only [Bool.or_eq_true, decide_eq_true_eq, not_or] at h
  omega

theorem keeps_tunnelChecks (t : TunnelId) (f : EthFrame) (s : State) : Keeps s (tunnelChecks t f s) := by
  refine .ite (fun _ => (keeps_wake t s).trans ?_) fun _ => keeps_modTunCounters t _ s
  simp only []
  split
  · exact keeps_dropNoKey t _
  · exact keeps_checkAndEncipher t _ f _

end Sys2Proof.Proofs
end

section

namespace Sys2Proof.Proofs

open Sys2Proof Sys2Proof.Machine

/-! ### Changes of every tunnel and of every uplink -/

/-- The state with every tunnel entry changed by `f`. -/
def mapTunnels (f : Tunnel → Tunnel) (s : State) : State := { s with tunnels := vecMap f s.tunnels }

/-- The state with every uplink changed by `f`. -/
def mapUplinks (f : Uplink → Uplink) (s : State) : State := { s with uplinks := vecMap f s.uplinks }

theorem vecMap_getElem {α β : Type} {n : Nat} (f : α → β) (v : Vector α n) (i : Nat) (h : i < n) :
    (vecMap f v)[i] = f v[i] := by
  simp [vecMap, Vector.getElem_mk]

theorem vecMap_toList {α β : Type} {n : Nat} (f : α → β) (v : Vector α n) : (vecMap f v).toList = v.toList.map f := rfl

theorem tun_of_vecMap {s r : State} {f : Tunnel → Tunnel} (h : r.tunnels = vecMap f s.tunnels) (t : TunnelId) :
    r.tun t = f (s.tun t) := by
  rw [State.tun, h]
  exact vecMap_getElem f s.tunnels t.val t.isLt

theorem mapTunnels_tun (f : Tunnel → Tunnel) (s : State) (t : TunnelId) : (mapTunnels f s).tun t = f (s.tun t) :=
  tun_of_vecMap rfl t

theorem mapTunnels_usedSlots {f : Tunnel → Tunnel} (hqueue : ∀ x, (f x).egress = x.egress) (s : State) :
    (mapTunnels f s).usedSlots = s.usedSlots := by
  simp only [State.usedSlots, mapTunnels, vecMap_toList, List.map_map, Function.comp_def, hqueue]

theorem keeps_mapTunnels {f : Tunnel → Tunnel} {s : State} (hqueue : ∀ x, (f x).egress = x.egress)
    (hgroup : ∀ x, (f x).cfg.activeGroup = x.cfg.activeGroup) (hkey : ∀ x, (f x).keyState = x.keyState)
    (hwindows : ∀ x, TunnelWindows x → TunnelWindows (f x))
    (hbounds : s.ArithmeticOk → ∀ t, TunnelBounds (f (s.tun t))) : Keeps s (mapTunnels f s) := by
  refine ⟨⟨rfl, id, id, id, fun h => ?_, fun h g => ⟨(h g).1, fun t => ?_⟩, id, fun h t => ?_, fun h => ⟨h.1, fun t => ?_⟩⟩,
    fun h => derivations_of_states h rfl rfl fun t _ => by rw [mapTunnels_tun, hkey]⟩
  · rw [State.SlotsOk, mapTunnels_usedSlots hqueue]
    exact h
  · rw [mapTunnels_tun, hqueue, hgroup]
    exact (h g).2 t
  · rw [mapTunnels_tun]
    exact hwindows _ (h t)
  · rw [mapTunnels_tun]
    exact hbounds h t

theorem keeps_mapUplinks {f : Uplink → Uplink} (h : ∀ x, (f x).tx.isSome → x.tx.isSome) (s : State) :
    Keeps s (mapUplinks f s) := by
  have hfewer (l : List Uplink) :
      ((l.map f).filter fun u => u.tx.isSome).length ≤ (l.filter fun u => u.tx.isSome).length := by
    rw [← List.countP_eq_length_filter, ← List.countP_eq_length_filter, List.countP_map]
    exact List.countP_mono_left fun x _ hx => h x hx
  refine ⟨⟨rfl, id, id, id, fun hs => ?_, id, id, id, id⟩, id⟩
  have hcount := hfewer s.uplinks.toList
  have hslots : (s.tunnels.toList.map fun t => t.egress.length).sum + s.officeQueue.length + s.officeTx.toList.length
    + (s.uplinks.toList.filter fun u => u.tx.isSome).length ≤ 4096 := hs
  change (s.tunnels.toList.map fun t => t.egress.length).sum + s.officeQueue.length + s.officeTx.toList.length
    + ((s.uplinks.toList.map f).filter fun u => u.tx.isSome).length ≤ 4096
  omega

theorem keeps_foldl {f : State → TunnelId → State} (h : ∀ s t, Keeps s (f s t)) (l : List TunnelId) (s : State) :
    Keeps s (l.foldl f s) := by
  induction l generalizing s with
  | nil => exact .refl s
  | cons t l ih => exact (h s t).trans (ih _)

/-! ### The commands -/

/-- The operation of a command keeps the promises, whatever its context. -/
def KeepsOp (op : CmdOp) : Prop := ∀ ctx s, Keeps s (op ctx s).1

theorem keepsOp_refuse (st : Status) : KeepsOp (refuse st) := fun _ s => .refl s

theorem keeps_progress (s : State) (p : Option Progress) : Keeps s { s with progress := p } :=
  ⟨⟨rfl, id, id, id, id, id, id, id, id⟩, id⟩

theorem keepsOp_identify : KeepsOp opIdentify := fun _ s => .refl s

theorem keepsOp_setLabel (label : BitVec 16) : KeepsOp (opSetLabel label) := by
  intro ctx s
  unfold opSetLabel
  split
  · exact .refl s
  · rename_i hlabel
    exact ⟨⟨rfl, id, id, id, id, id,
      fun ⟨profiles, offset, lfsr, base, range, interval, holdoff, overflow, _⟩ =>
        ⟨profiles, offset, lfsr, base, range, interval, holdoff, overflow, hlabel⟩, id, id⟩, id⟩

theorem keepsOp_readCounters : KeepsOp opReadCounters := fun _ s => .refl s

theorem keepsOp_setTransportKey (key : BitVec 256) : KeepsOp (opSetTransportKey key) := by
  intro ctx s
  unfold opSetTransportKey
  split
  · exact .refl s
  · split
    · exact .refl s
    · exact ⟨⟨rfl, id, id, id, id, id, id, id, id⟩, id⟩

theorem keepsOp_ackReset : KeepsOp opAckReset := by
  intro ctx s
  have hflags := keeps_setFlags s (s.flags &&& ~~~flagBit flagReset)
  exact .ite (fun _ => .ite (fun _ => hflags.trans (keeps_expiries _ _ _ _)) fun _ => hflags) fun _ => .refl s

theorem clamp_bounds {lo hi : Nat} (h : lo ≤ hi) (n : Nat) : lo ≤ clamp lo hi n ∧ clamp lo hi n ≤ hi := by
  unfold clamp
  omega

theorem keepsOp_setNotice (mode : Byte) (interval holdoff mask : BitVec 16) : KeepsOp (opSetNotice mode interval holdoff mask) := by
  intro ctx s
  unfold opSetNotice
  split
  · exact .refl s
  · rename_i m _
    exact ⟨⟨rfl, id, id, id, id, id,
      fun ⟨profiles, offset, lfsr, base, range, _, _, overflow, label⟩ => ⟨profiles, offset, lfsr, base, range,
        clamp_bounds (by decide : 10 ≤ 65535) _, clamp_bounds (by decide : 1 ≤ 65535) _, overflow, label⟩, id, id⟩, id⟩

theorem keepsOp_setIndicator (mask : BitVec 16) (polarity : Byte) : KeepsOp (opSetIndicator mask polarity) := by
  intro ctx s
  exact ⟨⟨rfl, id, fun _ => rfl, id, id, id, id, id, id⟩, id⟩

theorem keeps_clearFlags (s : State) : Keeps s (clearFlags s) := keeps_setFlags s _

theorem keepsOp_readSummary : KeepsOp opReadSummary := fun _ s =>
  (keeps_overflow s (Nat.zero_le _)).trans (keeps_clearFlags _)

theorem keepsOp_readFaults (n : Byte) : KeepsOp (opReadFaults n) := by
  intro ctx s
  unfold opReadFaults
  split
  · exact .refl s
  · refine keeps_faults s _ fun ⟨hnodup, hlen, hcount⟩ => ⟨?_, ?_, fun r hr => hcount r (List.mem_of_mem_drop hr)⟩
    · exact hnodup.sublist ((List.drop_sublist _ _).map _)
    · simp only [List.length_drop]
      omega

theorem keepsOp_writeInterval (entry : Byte) (separator : BitVec 16) (action : Byte) (base : BitVec 16) :
    KeepsOp (opWriteInterval entry separator action base) := by
  intro ctx s
  unfold opWriteInterval
  split
  · exact ⟨⟨rfl, id, id, id, id, id, id, id, id⟩, id⟩
  · exact .refl s

theorem keepsOp_readInterval (copy entry : Byte) : KeepsOp (opReadInterval copy entry) := by
  intro ctx s
  unfold opReadInterval
  split <;> exact .refl s

theorem keepsOp_writeGroups (flags : Byte) : KeepsOp (opWriteGroups flags) := fun _ _ =>
  ⟨⟨rfl, id, id, id, id, id, id, id, id⟩, id⟩

theorem keepsOp_applyTables : KeepsOp opApplyTables := by
  intro ctx s
  unfold opApplyTables
  split
  · exact ⟨⟨rfl, id, id, id, id, id, id, id, id⟩, id⟩
  · exact .refl s

theorem keepsOp_setClassify (offset : Byte) (port statusType : BitVec 16) : KeepsOp (opSetClassify offset port statusType) := by
  intro ctx s
  unfold opSetClassify
  split
  · exact .refl s
  · rename_i hoffset
    exact ⟨⟨rfl, id, id, id, id, id,
      fun ⟨profiles, _, lfsr, base, range, interval, holdoff, overflow, label⟩ =>
        ⟨profiles, Nat.le_of_not_lt hoffset, lfsr, base, range, interval, holdoff, overflow, label⟩, id, id⟩, id⟩

/-! #### Profiles -/

theorem clamped_inRange (p : Profile) : InRange p.clamped := by
  simp only [InRange, Profile.clamped, clamp]
  omega

theorem profiles_set {s : State} (h : s.ProfilesOk) (p : ProfileId) (values : Profile) :
    State.ProfilesOk { s with profiles := s.profiles.set p values.clamped } := by
  intro q
  by_cases hq : p = q
  · subst hq
    simpa using clamped_inRange values
  · have hne : p.val ≠ q.val := fun h => hq (Fin.ext h)
    simpa [Vector.getElem_set_ne, hne] using h q

theorem keepsOp_writeProfile (profile : Byte) (values : Profile) : KeepsOp (opWriteProfile profile values) := by
  intro ctx s
  unfold opWriteProfile
  split
  · exact .refl s
  · rename_i p _
    split
    · exact .refl s
    · exact ⟨⟨rfl, id, id, id, id, id, fun h => ⟨profiles_set h.1 p values, h.2⟩, id,
        fun h => ⟨profiles_set h.1 p values, h.2⟩⟩, id⟩

theorem keepsOp_readProfile (profile : Byte) : KeepsOp (opReadProfile profile) := by
  intro ctx s
  unfold opReadProfile
  split <;> exact .refl s

/-! #### Tunnels and keys -/

theorem keepsOp_readTunnel (tunnel : BitVec 16) : KeepsOp (opReadTunnel tunnel) := by
  intro ctx s
  unfold opReadTunnel
  split <;> exact .refl s

theorem keeps_writeSnoop (t : TunnelId) (v : Bool) (s : State) : Keeps s (writeSnoop t v s) := by
  have hsnoop : Keeps s (s.modTun t fun x => { x with cfg := { x.cfg with snoop := v } }) :=
    keeps_setTun_inert rfl rfl rfl id id
  exact .ite (fun _ => hsnoop.trans (keeps_setShop t _ _)) fun _ => hsnoop

theorem keeps_writeEnabled (t : TunnelId) (v : Bool) (s : State) : Keeps s (writeEnabled t v s) :=
  .ite (fun _ => .refl s) fun _ => .ite (fun _ => keeps_enableTunnel t s) fun _ => keeps_disableTunnel t s

/-- A field of WRITE_TUNNEL written where the command carries it (R21). -/
def whenCarried {α : Type} (write : α → State → State) (carried : Option α) (s : State) : State :=
  match carried with
  | some v => write v s
  | none => s

/-- The entry with every carried field but enabled and snoop stored (R21). -/
def fieldsStored (w : TunnelWrite) (x : Tunnel) : Tunnel := { x with cfg := x.cfg.store w }

theorem writeTunnel_eq (t : TunnelId) (w : TunnelWrite) (s : State) : writeTunnel t w s =
    settle t (whenCarried (writeEnabled t) (w.enabled.bind boolArg)
      (whenCarried (writeSnoop t) (w.snoop.bind boolArg) (s.setTun t (fieldsStored w (s.tun t))))) := by
  cases hsnoop : w.snoop.bind boolArg <;> cases henabled : w.enabled.bind boolArg <;>
    simp only [writeTunnel, whenCarried, hsnoop, henabled] <;> rfl

theorem keeps_whenCarried {α : Type} {write : α → State → State} (h : ∀ v s, Keeps s (write v s)) (carried : Option α)
    (s : State) : Keeps s (whenCarried write carried s) := by
  cases carried with
  | some v => exact h v s
  | none => exact .refl s

theorem keeps_writeTunnel (t : TunnelId) (w : TunnelWrite) (s : State) : Keeps s (writeTunnel t w s) := by
  rw [writeTunnel_eq]
  have hstore : Keeps s (s.setTun t (fieldsStored w (s.tun t))) := keeps_setTun_inert rfl rfl rfl id id
  exact ((hstore.trans (keeps_whenCarried (keeps_writeSnoop t) _ _)).trans
    (keeps_whenCarried (keeps_writeEnabled t) _ _)).trans (keeps_settle t _)

theorem keepsOp_writeTunnel (w : TunnelWrite) : KeepsOp (opWriteTunnel w) := by
  intro ctx s
  unfold opWriteTunnel
  split
  · exact .refl s
  · rename_i t _
    split
    · exact .refl s
    · split
      · exact .refl s
      · dsimp only
        exact keeps_writeTunnel t w s

theorem keepsOp_installSecret (tunnel : BitVec 16) (block : Option Wrapping) : KeepsOp (opInstallSecret tunnel block) := by
  intro ctx s
  unfold opInstallSecret
  split
  · exact .refl s
  · rename_i t _
    split
    · exact .refl s
    · rename_i m _
      dsimp only
      exact keeps_installSecret t m s

theorem keepsOp_eraseGenerations (tunnel : BitVec 16) : KeepsOp (opEraseGenerations tunnel) := by
  intro ctx s
  unfold opEraseGenerations
  split
  · exact .refl s
  · rename_i t _
    dsimp only
    exact (keeps_eraseGenerations t s).trans (keeps_settle t _)

theorem keepsOp_eraseAll (tunnel : BitVec 16) : KeepsOp (opEraseAll tunnel) := by
  intro ctx s
  unfold opEraseAll
  split
  · exact .refl s
  · rename_i t _
    dsimp only
    exact (keeps_eraseAll t s).trans (keeps_settle t _)

theorem keeps_renewNow (t : TunnelId) (s : State) : Keeps s (renewNow t s) :=
  ((keeps_wake t s).trans (keeps_takeAsk t _)).trans (keeps_settle t _)

theorem keepsOp_renewNow (tunnel : BitVec 16) : KeepsOp (opRenewNow tunnel) := by
  intro ctx s
  unfold opRenewNow
  split
  · exact .refl s
  · rename_i t _
    split
    · dsimp only
      exact keeps_renewNow t s
    · exact .refl s

theorem keepsOp_setShopState (tunnel : BitVec 16) (shop : Byte) : KeepsOp (opSetShopState tunnel shop) := by
  intro ctx s
  unfold opSetShopState
  split
  · rename_i t new _ _
    have hsnoop : Keeps s (s.modTun t fun x => { x with cfg := { x.cfg with snoop := false } }) :=
      keeps_setTun_inert rfl rfl rfl id id
    dsimp only
    exact (hsnoop.trans (keeps_setShop t new _)).trans (keeps_settle t _)
  · exact .refl s

theorem keeps_reseedTunnel (t : TunnelId) (s : State) : Keeps s (reseedTunnel t s) := by
  unfold reseedTunnel
  split
  · exact keeps_releaseSilent t 5 s
  · exact keeps_releaseDelay t 5 s
  · exact keeps_toSeeding t s

theorem keepsOp_reseed (tunnel : BitVec 16) : KeepsOp (opReseed tunnel) := by
  intro ctx s
  unfold opReseed
  split
  · exact .refl s
  · rename_i t _
    split
    · exact .refl s
    · dsimp only
      exact (keeps_reseedTunnel t s).trans (keeps_settle t _)

/-! #### Settings and uplinks -/

theorem keepsOp_setJitter (seed base range : BitVec 16) : KeepsOp (opSetJitter seed base range) := by
  intro ctx s
  refine ⟨⟨rfl, id, id, id, id, id, fun ⟨profiles, offset, _, _, _, interval, holdoff, overflow, label⟩ =>
    ⟨profiles, offset, ?_, ?_, ⟨?_, ?_⟩, interval, holdoff, overflow, label⟩, id, id⟩, id⟩
  · change (if seed = 0 then (1 : BitVec 16) else seed) ≠ 0
    split
    · decide
    · assumption
  · exact Nat.le_of_lt_succ base.isLt
  · change 1 ≤ (if range = 0 then (1 : BitVec 16) else range).toNat
    split
    · decide
    · rename_i hrange
      exact Nat.pos_of_ne_zero fun h => hrange (BitVec.eq_of_toNat_eq h)
  · exact Nat.le_of_lt_succ (if range = 0 then (1 : BitVec 16) else range).isLt

theorem keepsOp_setRetention (bank segment : Byte) : KeepsOp (opSetRetention bank segment) := fun _ _ =>
  ⟨⟨rfl, id, id, id, id, id, id, id, id⟩, id⟩

theorem keeps_storeUplinkFlags (u : UplinkId) (flags : Byte) (s : State) : Keeps s (storeUplinkFlags u flags s) :=
  keeps_modUplink u _ s fun _ => by left; rfl

theorem keeps_startUplink (u : UplinkId) (s : State) : Keeps s (startUplink u s) := by
  refine .ite (fun _ => .refl s) fun _ => .ite (fun _ => keeps_modUplink u _ s fun _ => by left; rfl) fun _ => ?_
  exact (keeps_modUplink u _ s fun _ => by left; rfl).trans (keeps_post _ _ _ _)

theorem keeps_stopUplink (u : UplinkId) (s : State) : Keeps s (stopUplink u s) :=
  (keeps_loseTx u s).trans (keeps_modUplink u _ _ fun _ => by left; rfl)

theorem keepsOp_uplinkStart (uplink flags : Byte) : KeepsOp (opUplinkStart uplink flags) := by
  intro ctx s
  unfold opUplinkStart
  split
  · exact .refl s
  · rename_i u _
    dsimp only
    exact ((keeps_storeUplinkFlags u flags s).trans (keeps_startUplink u _)).trans (keeps_serveAll _)

theorem keepsOp_uplinkStop (uplink flags : Byte) : KeepsOp (opUplinkStop uplink flags) := by
  intro ctx s
  unfold opUplinkStop
  split
  · exact .refl s
  · rename_i u _
    dsimp only
    exact (keeps_storeUplinkFlags u flags s).trans (keeps_stopUplink u _)

end Sys2Proof.Proofs
end

section

namespace Sys2Proof.Proofs

open Sys2Proof Sys2Proof.Machine

/-! ### RESET of level 1 -/

theorem keeps_noFaults (s : State) : Keeps s { s with faults := [] } :=
  keeps_faults s _ fun _ => ⟨List.nodup_nil, Nat.zero_le _, nofun⟩

/-- The entry with its counters at 0 (R169). -/
def countersCleared (x : Tunnel) : Tunnel := { x with counters := TunnelCounters.zero }

/-- The uplink with its counters at 0 (R169). -/
def uplinkCleared (x : Uplink) : Uplink := { x with txCount := 0, txLost := 0, discards := 0, rxCount := 0, rxError := 0 }

theorem levelOne_eq (s : State) : levelOne s = clearFlags { mapUplinks uplinkCleared (mapTunnels countersCleared s) with
    counters := DeviceCounters.zero, faults := [], overflow := 0 } := rfl

theorem keeps_levelOne (s : State) : Keeps s (levelOne s) := by
  rw [levelOne_eq]
  have hmap : Keeps s (mapUplinks uplinkCleared (mapTunnels countersCleared s)) :=
    (keeps_mapTunnels (f := countersCleared) (fun _ => rfl) (fun _ => rfl) (fun _ => rfl) (fun _ => id) fun h t => h.2 t).trans
      (keeps_mapUplinks (f := uplinkCleared) (fun _ => id) _)
  have hclear := ((hmap.trans (keeps_noFaults _)).trans (keeps_modCounters _ fun _ => DeviceCounters.zero)).trans
    (keeps_overflow _ (Nat.zero_le _))
  exact hclear.trans (keeps_clearFlags _)

theorem keepsOp_resetLevel1 : KeepsOp opResetLevel1 := fun _ s => keeps_levelOne s

/-! ### RESET of level 2 -/

/-- The state of the tunnels, the waiting lists and the derivation unit at a level 2, before its first derivation starts (R20,
R62). -/
def levelledTwo (s : State) : State :=
  { s with
    tunnels := vecMap (Tunnel.levelTwo s.tick s.profiles) s.tunnels
    waiting := vecConst 4 []
    kduQueue := bootstrapEntries s
    kduFlight := s.kduFlight.map fun d => { d with owner := none } }

theorem levelTwo_eq (s : State) : levelTwo s = startDerivation (levelledTwo s) := rfl

theorem levelledTwo_tun (s : State) (t : TunnelId) :
    (levelledTwo s).tun t = Tunnel.levelTwo s.tick s.profiles (s.tun t) := tun_of_vecMap rfl t

theorem vecConst_getElem {α : Type} {n : Nat} (x : α) (i : Nat) (h : i < n) : (vecConst n x)[i] = x := by
  simp [vecConst]

theorem list_of_vecConst {s : State} (h : s.waiting = vecConst 4 []) (g : UplinkId) : s.list g = [] := by
  rw [State.list, h]
  exact vecConst_getElem [] g.val g.isLt

theorem levelTwo_windows {now : Tick} {profiles : Vector Profile 16} {x : Tunnel} (h : TunnelWindows x) :
    TunnelWindows (x.levelTwo now profiles) := ⟨h.1, nofun, nofun⟩

theorem allTunnels_nodup : allTunnels.Nodup := List.nodup_finRange _

theorem levelledTwo_derivations (s : State) : (levelledTwo s).DerivationsOk := by
  have howner (d : KduFlight) (hd : d ∈ (levelledTwo s).kduFlight) : d.owner = none := by
    obtain ⟨d0, -, rfl⟩ := Option.map_eq_some_iff.mp hd
    rfl
  have hflight : (levelledTwo s).kduFlight.bind KduFlight.owner = none := by
    rw [Option.bind_eq_none_iff]
    exact howner
  refine ⟨?_, fun e he => ?_, fun d hd t ht => ?_⟩
  · have hlist : (levelledTwo s).deriving = allTunnels.filter fun t => (s.tun t).keyState == .bootstrap := by
      rw [State.deriving, hflight]
      simp [levelledTwo, bootstrapEntries, Function.comp_def]
    rw [hlist]
    exact allTunnels_nodup.filter _
  · simp only [levelledTwo, bootstrapEntries, List.mem_map, List.mem_filter, beq_iff_eq] at he
    obtain ⟨t, ⟨-, hboot⟩, rfl⟩ := he
    rw [levelledTwo_tun]
    exact unkeyedFrom_bootstrap hboot
  · rw [howner d hd] at ht
    simp at ht

theorem keeps_levelTwo (s : State) : Keeps s (levelTwo s) := by
  rw [levelTwo_eq]
  refine Keeps.trans (r := levelledTwo s) ⟨⟨rfl, id, id, id, fun h => ?_, fun _ g => ?_, id, fun h t => ?_, fun h => ⟨h.1, fun t => ?_⟩⟩,
    fun _ => levelledTwo_derivations s⟩ (keeps_startDerivation _)
  · have hempty : ((levelledTwo s).tunnels.toList.map fun t => t.egress.length).sum = 0 := by
      change (((s.tunnels.toList.map (Tunnel.levelTwo s.tick s.profiles)).map fun t => t.egress.length)).sum = 0
      rw [List.map_map]
      exact List.sum_eq_zero fun n hn => by
        obtain ⟨x, -, rfl⟩ := List.mem_map.mp hn
        rfl
    have hslots : s.usedSlots ≤ 4096 := h
    simp only [State.usedSlots] at hslots
    simp only [State.SlotsOk, State.usedSlots, hempty]
    change 0 + s.officeQueue.length + s.officeTx.toList.length + (s.uplinks.toList.filter fun u => u.tx.isSome).length ≤ 4096
    omega
  · have hlist : (levelledTwo s).list g = [] := list_of_vecConst rfl g
    rw [hlist]
    refine ⟨List.nodup_nil, fun t => ?_⟩
    rw [levelledTwo_tun]
    simp [Tunnel.levelTwo]
  · rw [levelledTwo_tun]
    exact levelTwo_windows (h t)
  · rw [levelledTwo_tun]
    exact ⟨toOff_inBounds _, Nat.zero_le _, Nat.zero_le _⟩

theorem keepsOp_resetLevel2 : KeepsOp opResetLevel2 := fun _ s => (keeps_levelTwo s).trans (keeps_progress _ _)

theorem awaitLast_length (l : List CascadeEntry) : (awaitLast l).length = l.length := by
  induction l with
  | nil => rfl
  | cons e es ih =>
    cases es with
    | nil => rfl
    | cons e' es => simpa [awaitLast] using ih

theorem keepsOp_resetLevel3 : KeepsOp opResetLevel3 := by
  intro ctx s
  refine (keeps_cascadeList s (if ctx.joined then awaitLast s.cascadeList else s.cascadeList) (.inr ?_)).trans
    (keeps_progress _ _)
  split
  · exact (awaitLast_length _).le
  · exact le_rfl

theorem keeps_clearRest (t : TunnelId) (s : State) : Keeps s (clearRest t s) := by
  have hawake : Keeps s (s.modTun t fun x => { x with dormant := false }) := keeps_setTun_inert rfl rfl rfl id id
  exact .ite (fun _ => .ite (fun _ => hawake.trans (keeps_armDormancy t _)) fun _ => hawake) fun _ => .refl s

theorem keeps_startAllInitialKeying (s : State) : Keeps s (startAllInitialKeying s) :=
  keeps_foldl (fun s t => .ite (fun _ => (keeps_clearRest t s).trans (keeps_startInitialKeying t _)) fun _ => .refl s) _ s

/-! ### The commands in management frames and in their rows -/

/-- The operations of the commands. -/
inductive IsCommand : CmdOp → Prop where
  | refused (st : Status) : IsCommand (refuse st)
  | identify : IsCommand opIdentify
  | setLabel (label : BitVec 16) : IsCommand (opSetLabel label)
  | readCounters : IsCommand opReadCounters
  | ackReset : IsCommand opAckReset
  | setNotice (mode : Byte) (interval holdoff mask : BitVec 16) : IsCommand (opSetNotice mode interval holdoff mask)
  | setIndicator (mask : BitVec 16) (polarity : Byte) : IsCommand (opSetIndicator mask polarity)
  | readSummary : IsCommand opReadSummary
  | readFaults (n : Byte) : IsCommand (opReadFaults n)
  | writeInterval (entry : Byte) (separator : BitVec 16) (action : Byte) (base : BitVec 16) :
      IsCommand (opWriteInterval entry separator action base)
  | readInterval (copy entry : Byte) : IsCommand (opReadInterval copy entry)
  | writeGroups (flags : Byte) : IsCommand (opWriteGroups flags)
  | applyTables : IsCommand opApplyTables
  | writeProfile (profile : Byte) (values : Profile) : IsCommand (opWriteProfile profile values)
  | readProfile (profile : Byte) : IsCommand (opReadProfile profile)
  | writeTunnel (w : TunnelWrite) : IsCommand (opWriteTunnel w)
  | readTunnel (tunnel : BitVec 16) : IsCommand (opReadTunnel tunnel)
  | installSecret (tunnel : BitVec 16) (block : Option Wrapping) : IsCommand (opInstallSecret tunnel block)
  | eraseGenerations (tunnel : BitVec 16) : IsCommand (opEraseGenerations tunnel)
  | eraseAll (tunnel : BitVec 16) : IsCommand (opEraseAll tunnel)
  | renewNow (tunnel : BitVec 16) : IsCommand (opRenewNow tunnel)
  | setShopState (tunnel : BitVec 16) (shop : Byte) : IsCommand (opSetShopState tunnel shop)
  | reseed (tunnel : BitVec 16) : IsCommand (opReseed tunnel)
  | setClassify (offset : Byte) (port statusType : BitVec 16) : IsCommand (opSetClassify offset port statusType)
  | setJitter (seed base range : BitVec 16) : IsCommand (opSetJitter seed base range)
  | setRetention (bank segment : Byte) : IsCommand (opSetRetention bank segment)
  | uplinkStart (uplink flags : Byte) : IsCommand (opUplinkStart uplink flags)
  | uplinkStop (uplink flags : Byte) : IsCommand (opUplinkStop uplink flags)
  | setTransportKey (key : BitVec 256) : IsCommand (opSetTransportKey key)
  | resetLevel1 : IsCommand opResetLevel1
  | resetLevel2 : IsCommand opResetLevel2
  | resetLevel3 : IsCommand opResetLevel3

/-- What a management frame's code and payload name is an operation of the commands. -/
theorem isCommand_commandOp (code : Byte) (pl : List Byte) (wrap : Option Wrapping) : IsCommand (commandOp code pl wrap) := by
  unfold commandOp
  split
  · exact .refused _
  · split
    · exact .refused _
    · split
      · exact .identify
      · exact .setLabel _
      · exact .readCounters
      · exact .ackReset
      · exact .setNotice _ _ _ _
      · exact .setIndicator _ _
      · exact .readSummary
      · exact .readFaults _
      · exact .writeInterval _ _ _ _
      · exact .readInterval _ _
      · exact .writeGroups _
      · exact .applyTables
      · exact .writeProfile _ _
      · exact .readProfile _
      · exact .writeTunnel _
      · exact .readTunnel _
      · exact .installSecret _ _
      · split
        · exact .eraseGenerations _
        · exact .eraseAll _
        · exact .refused _
      · exact .renewNow _
      · exact .setShopState _ _
      · exact .reseed _
      · exact .setClassify _ _ _
      · exact .setJitter _ _ _
      · exact .setRetention _ _
      · split
        · exact .uplinkStop _ _
        · exact .uplinkStart _ _
        · exact .refused _
      · exact .setTransportKey _
      · split
        · exact .resetLevel1
        · exact .resetLevel2
        · exact .resetLevel3
        · exact .refused _
      · exact .refused _

/-- A row of the table that is a command is the Agent's taking of an operation of the commands. -/
theorem exec_isCommand {c : Instr} {h : CmdHeader} {code : Byte} {pl : List Byte} (hwire : c.wire = some (h, code, pl)) :
    ∃ op : CmdOp, IsCommand op ∧ ∀ s, exec c s = .next (s.live (commandRow h code op)) := by
  cases c <;> simp only [Instr.wire, Option.some.injEq, Prod.mk.injEq, reduceCtorEq] at hwire
  all_goals obtain ⟨rfl, rfl, -⟩ := hwire
  case identify => exact ⟨_, .identify, fun _ => rfl⟩
  case setLabel => exact ⟨_, .setLabel _, fun _ => rfl⟩
  case readCounters => exact ⟨_, .readCounters, fun _ => rfl⟩
  case ackReset => exact ⟨_, .ackReset, fun _ => rfl⟩
  case setNotice => exact ⟨_, .setNotice _ _ _ _, fun _ => rfl⟩
  case setIndicator => exact ⟨_, .setIndicator _ _, fun _ => rfl⟩
  case readSummary => exact ⟨_, .readSummary, fun _ => rfl⟩
  case readFaults => exact ⟨_, .readFaults _, fun _ => rfl⟩
  case writeInterval => exact ⟨_, .writeInterval _ _ _ _, fun _ => rfl⟩
  case readInterval => exact ⟨_, .readInterval _ _, fun _ => rfl⟩
  case writeGroups => exact ⟨_, .writeGroups _, fun _ => rfl⟩
  case applyTables => exact ⟨_, .applyTables, fun _ => rfl⟩
  case writeProfile => exact ⟨_, .writeProfile _ _, fun _ => rfl⟩
  case readProfile => exact ⟨_, .readProfile _, fun _ => rfl⟩
  case writeTunnel => exact ⟨_, .writeTunnel _, fun _ => rfl⟩
  case readTunnel => exact ⟨_, .readTunnel _, fun _ => rfl⟩
  case installSecret => exact ⟨_, .installSecret _ _, fun _ => rfl⟩
  case eraseKeysGenerations => exact ⟨_, .eraseGenerations _, fun _ => rfl⟩
  case eraseKeysAll => exact ⟨_, .eraseAll _, fun _ => rfl⟩
  case renewNow => exact ⟨_, .renewNow _, fun _ => rfl⟩
  case setShopState => exact ⟨_, .setShopState _ _, fun _ => rfl⟩
  case reseed => exact ⟨_, .reseed _, fun _ => rfl⟩
  case setClassify => exact ⟨_, .setClassify _ _ _, fun _ => rfl⟩
  case setJitter => exact ⟨_, .setJitter _ _ _, fun _ => rfl⟩
  case setRetention => exact ⟨_, .setRetention _ _, fun _ => rfl⟩
  case uplinkStart => exact ⟨_, .uplinkStart _ _, fun _ => rfl⟩
  case uplinkStop => exact ⟨_, .uplinkStop _ _, fun _ => rfl⟩
  case setTransportKey => exact ⟨_, .setTransportKey _, fun _ => rfl⟩
  case resetLevel1 => exact ⟨_, .resetLevel1, fun _ => rfl⟩
  case resetLevel2 => exact ⟨_, .resetLevel2, fun _ => rfl⟩
  case resetLevel3 => exact ⟨_, .resetLevel3, fun _ => rfl⟩

theorem IsCommand.keeps {op : CmdOp} (h : IsCommand op) : KeepsOp op := by
  cases h with
  | refused st => exact keepsOp_refuse st
  | identify => exact keepsOp_identify
  | setLabel _ => exact keepsOp_setLabel _
  | readCounters => exact keepsOp_readCounters
  | ackReset => exact keepsOp_ackReset
  | setNotice _ _ _ _ => exact keepsOp_setNotice _ _ _ _
  | setIndicator _ _ => exact keepsOp_setIndicator _ _
  | readSummary => exact keepsOp_readSummary
  | readFaults _ => exact keepsOp_readFaults _
  | writeInterval _ _ _ _ => exact keepsOp_writeInterval _ _ _ _
  | readInterval _ _ => exact keepsOp_readInterval _ _
  | writeGroups _ => exact keepsOp_writeGroups _
  | applyTables => exact keepsOp_applyTables
  | writeProfile _ _ => exact keepsOp_writeProfile _ _
  | readProfile _ => exact keepsOp_readProfile _
  | writeTunnel _ => exact keepsOp_writeTunnel _
  | readTunnel _ => exact keepsOp_readTunnel _
  | installSecret _ _ => exact keepsOp_installSecret _ _
  | eraseGenerations _ => exact keepsOp_eraseGenerations _
  | eraseAll _ => exact keepsOp_eraseAll _
  | renewNow _ => exact keepsOp_renewNow _
  | setShopState _ _ => exact keepsOp_setShopState _ _
  | reseed _ => exact keepsOp_reseed _
  | setClassify _ _ _ => exact keepsOp_setClassify _ _ _
  | setJitter _ _ _ => exact keepsOp_setJitter _ _ _
  | setRetention _ _ => exact keepsOp_setRetention _ _
  | uplinkStart _ _ => exact keepsOp_uplinkStart _ _
  | uplinkStop _ _ => exact keepsOp_uplinkStop _ _
  | setTransportKey _ => exact keepsOp_setTransportKey _
  | resetLevel1 => exact keepsOp_resetLevel1
  | resetLevel2 => exact keepsOp_resetLevel2
  | resetLevel3 => exact keepsOp_resetLevel3

theorem keeps_station (s : State) (a : Option Mac) : Keeps s { s with station := a } :=
  ⟨⟨rfl, id, id, id, id, id, id, id, id⟩, id⟩

theorem keeps_takeCommand {op : CmdOp} (hop : KeepsOp op) (ctx : CmdCtx) (code : Byte) (s : State) :
    Keeps s (takeCommand ctx code op s) := by
  have hlearned : Keeps s (if ctx.broadcast then s else { s with station := some ctx.source }) :=
    .ite (fun _ => .refl s) fun _ => keeps_station s _
  refine .ite (fun _ => hlearned.trans (keeps_sendReply _ _ _ _ _ _)) fun _ =>
    .ite (fun _ => hlearned.trans (keeps_sendReply _ _ _ _ _ _)) fun _ => ?_
  have hdone := hlearned.trans (hop ctx _)
  split
  · rename_i s2 st payload heq
    rw [heq] at hdone
    exact hdone.trans (keeps_sendReply _ _ _ _ _ _)
  · rename_i s2 heq
    rw [heq] at hdone
    exact hdone

theorem keeps_commandRow {op : CmdOp} (hop : KeepsOp op) (h : CmdHeader) (code : Byte) (s : State) :
    Keeps s (commandRow h code op s) := by
  unfold commandRow
  split
  · exact keeps_takeCommand hop _ code s
  · exact (keeps_cascadeForward _ s).trans (keeps_takeCommand hop _ code _)

theorem keeps_executeFrame (f : EthFrame) (prov broadcast joined : Bool) (s : State) :
    Keeps s (executeFrame f prov broadcast joined s) :=
  .ite (fun _ => keeps_modCounters s _) fun _ => keeps_takeCommand (isCommand_commandOp _ _ _).keeps _ _ s

theorem keeps_takeManagementFrame (f : EthFrame) (prov : Bool) (s : State) : Keeps s (takeManagementFrame f prov s) :=
  .ite (fun _ => keeps_executeFrame f prov false false s) fun _ =>
    .ite (fun _ => (keeps_cascadeForward f s).trans (keeps_executeFrame f prov true _ _)) fun _ =>
      .ite (fun _ => keeps_cascadeForward f s) fun _ => keeps_post _ _ _ s

/-! ### The office receive path -/

theorem keeps_holding (s : State) {l : List EthFrame} (h : l.length ≤ 256 ∨ l.length ≤ s.holding.length) :
    Keeps s { s with holding := l } :=
  ⟨⟨rfl, id, id, fun ⟨hold, office, cascade⟩ => ⟨h.elim id fun h => h.trans hold, office, cascade⟩, id, id, id, id, id⟩, id⟩

theorem keeps_typeStage (f : EthFrame) (prov : Bool) (s : State) : Keeps s (typeStage f prov s) := by
  refine .ite (fun _ => keeps_takeManagementFrame f prov s) fun _ => .ite (fun _ => keeps_modCounters s _) fun _ =>
    .ite (fun h => keeps_holding s (.inl ?_)) fun _ => keeps_modCounters s _
  simp only [List.length_append, List.length_cons, List.length_nil]
  omega

theorem keeps_officeFrameAt (t : TunnelId) (f : EthFrame) (s : State) : Keeps s (officeFrameAt t f s) :=
  ((keeps_snoop t f s).trans (keeps_tunnelChecks t f _)).trans (keeps_settle t _)

theorem keeps_applyEntry (i : EntryId) (key : Nat) (f : EthFrame) (s : State) : Keeps s (applyEntry i key f s) := by
  unfold applyEntry
  split
  · exact (keeps_modCounters s _).trans (keeps_post _ _ _ _)
  · simp only []
    split
    · exact keeps_officeFrameAt _ f s
    · exact (keeps_modCounters s _).trans (keeps_post _ _ _ _)

theorem keeps_classify (f : EthFrame) (s : State) : Keeps s (classify f s) := by
  unfold classify
  split
  · split
    · exact keeps_applyEntry _ _ f s
    · exact .refl s
  · exact keeps_modCounters s _

/-! ### The inbound path -/

theorem accepted_ok {w : Window} {n : Nat} (hw : w.Ok) (hjudge : w.judge n = .accept) : (w.accepted n).Ok := by
  obtain ⟨hnodup, hbounds⟩ := hw
  unfold Window.judge at hjudge
  unfold Window.accepted
  split
  · rename_i hhigh
    refine ⟨List.nodup_cons.mpr ⟨fun hmem => ?_, hnodup.filter _⟩, fun m hm => ?_⟩
    · have := hbounds n (List.mem_of_mem_filter hmem)
      omega
    · rcases List.mem_cons.mp hm with rfl | hm
      · exact ⟨Nat.le_refl m, Nat.le_add_right m 63⟩
      · obtain ⟨hmem, hnear⟩ := List.mem_filter.mp hm
        have := hbounds m hmem
        have : n ≤ m + 63 := by simpa using hnear
        change m ≤ n ∧ n ≤ m + 63
        omega
  · rename_i hhigh
    rw [if_neg hhigh] at hjudge
    split at hjudge
    · exact absurd hjudge (by simp)
    · split at hjudge
      · exact absurd hjudge (by simp)
      · rename_i hnear hnew
        refine ⟨List.nodup_cons.mpr ⟨hnew, hnodup⟩, fun m hm => ?_⟩
        rcases List.mem_cons.mp hm with rfl | hm
        · change m ≤ w.high ∧ w.high ≤ m + 63
          omega
        · exact hbounds m hm

theorem matching_window {x : Tunnel} {h : TunnelHeader} {m : Match} {k : KeyContext} (hx : TunnelWindows x)
    (hmatch : x.matching h = some (m, k)) : k.window.Ok := by
  obtain ⟨hgen0, hcur, hprev⟩ := hx
  unfold Tunnel.matching at hmatch
  split at hmatch
  · split at hmatch
    · rename_i g hg
      split at hmatch
      · obtain ⟨-, rfl⟩ := Prod.mk.inj (Option.some.inj hmatch)
        exact hgen0 g hg
      · simp at hmatch
    · simp at hmatch
  · split at hmatch
    · rename_i c hc
      obtain ⟨-, rfl⟩ := Prod.mk.inj (Option.some.inj hmatch)
      exact hcur c (Option.filter_eq_some_iff.mp hc).1
    · rename_i p _ hp
      obtain ⟨-, rfl⟩ := Prod.mk.inj (Option.some.inj hmatch)
      exact hprev p (Option.filter_eq_some_iff.mp hp).1
    · simp at hmatch

theorem setWindow_windows {x : Tunnel} (m : Match) {w : Window} (hw : w.Ok) (h : TunnelWindows x) :
    TunnelWindows (x.setWindow m w) := by
  obtain ⟨hgen0, hcur, hprev⟩ := h
  cases m with
  | gen0 =>
    refine ⟨fun g hg => ?_, hcur, hprev⟩
    obtain ⟨g0, -, rfl⟩ := Option.map_eq_some_iff.mp hg
    exact hw
  | current =>
    refine ⟨hgen0, fun c hc => ?_, hprev⟩
    obtain ⟨c0, -, rfl⟩ := Option.map_eq_some_iff.mp hc
    exact hw
  | previous =>
    refine ⟨hgen0, hcur, fun p hp => ?_⟩
    obtain ⟨p0, -, rfl⟩ := Option.map_eq_some_iff.mp hp
    exact hw

theorem keeps_setWindow {t : TunnelId} {s : State} (m : Match) {w : Window} (hw : TunnelWindows (s.tun t) → w.Ok) :
    Keeps s (s.modTun t fun x => x.setWindow m w) := by
  have hrest : ((s.tun t).setWindow m w).egress = (s.tun t).egress ∧ ((s.tun t).setWindow m w).cfg = (s.tun t).cfg
      ∧ ((s.tun t).setWindow m w).keyState = (s.tun t).keyState ∧ ((s.tun t).setWindow m w).health = (s.tun t).health
      ∧ ((s.tun t).setWindow m w).rate = (s.tun t).rate ∧ ((s.tun t).setWindow m w).sample = (s.tun t).sample := by
    cases m <;> exact ⟨rfl, rfl, rfl, rfl, rfl, rfl⟩
  obtain ⟨hqueue, hcfg, hkey, hhealth, hrate, hsample⟩ := hrest
  refine keeps_setTun_inert hqueue (by rw [hcfg]) hkey (fun h => setWindow_windows m (hw h) h) fun h => ?_
  rwa [TunnelBounds, hhealth, hrate, hsample]

theorem keeps_retirePrevious (t : TunnelId) (m : Match) (s : State) :
    Keeps s (s.modTun t fun x => x.retirePrevious m) := by
  rw [State.modTun, retirePrevious_eq]
  refine keeps_setTun_inert rfl rfl rfl (fun h => ⟨h.1, h.2.1, fun p hp => ?_⟩) id
  dsimp only at hp
  split at hp
  · simp at hp
  · exact h.2.2 p hp

theorem keeps_dispatch (t : TunnelId) (h : TunnelHeader) (m : Match) (body : List Byte) (arrival : BitVec 32) (s : State) :
    Keeps s (dispatch t h m body arrival s) := by
  refine .ite (fun _ => ?_) fun _ => .ite (fun _ => ?_) fun _ => .ite (fun _ => keeps_takeEcho t _ arrival s) fun _ =>
    .ite (fun _ => keeps_modTunCounters t _ s) fun _ => .ite (fun _ => keeps_takeAccept t _ _ _ s) fun _ => keeps_takeAsk t s
  · exact ((keeps_modTunCounters t _ s).trans (keeps_offerClear _ _)).trans (keeps_dataActivity t _)
  · unfold answerProbe
    cases hsend : sendCurrent t kindEcho body s with
    | none => exact .refl s
    | some r => exact keeps_sendCurrent hsend

theorem keeps_takeAtTunnel (t : TunnelId) (h : TunnelHeader) (d : Delivered) (s : State) :
    Keeps s (takeAtTunnel t h d s) := by
  unfold takeAtTunnel
  split
  · exact keeps_modCounters s _
  · split
    · exact keeps_modTunCounters t _ s
    · rename_i m k hmatch
      split
      · exact (keeps_modTunCounters t _ s).trans (keeps_postTunnel _ t _ _)
      · split
        · rename_i hjudge
          exact (((keeps_setWindow m fun hx => accepted_ok (matching_window hx hmatch) hjudge).trans (keeps_wake t _)).trans
            (keeps_retirePrevious t m _)).trans ((keeps_dispatch t h m _ _ _).trans (keeps_settle t _))
        · exact (keeps_modTunCounters t _ s).trans (keeps_postTunnel _ t _ _)
        · exact keeps_modTunCounters t _ s

theorem keeps_takeDelivered (d : Delivered) (s : State) : Keeps s (takeDelivered d s) := by
  unfold takeDelivered
  split
  · split
    · exact keeps_modCounters s _
    · exact keeps_takeAtTunnel _ _ d s
  · exact keeps_modCounters s _

end Sys2Proof.Proofs
end

section

namespace Sys2Proof.Proofs

open Sys2Proof Sys2Proof.Machine

/-! ### The reset values (R171) -/

/-- The tunnels, the profiles, the lists and the settings of a state stand at their values after a reset. -/
structure AtReset (s : State) : Prop where
  tunnels : s.tunnels = vecConst 1024 Tunnel.reset
  profiles : s.profiles = vecConst 16 Profile.default
  waiting : s.waiting = vecConst 4 []
  kduQueue : s.kduQueue = []
  kduFlight : s.kduFlight = none

theorem AtReset.tun {s : State} (h : AtReset s) (t : TunnelId) : s.tun t = Tunnel.reset := by
  rw [State.tun, h.tunnels]
  exact vecConst_getElem _ t.val t.isLt

theorem AtReset.profile {s : State} (h : AtReset s) (p : ProfileId) : s.profiles[p] = Profile.default := by
  rw [h.profiles]
  exact vecConst_getElem _ p.val p.isLt

theorem AtReset.profilesOk {s : State} (h : AtReset s) : s.ProfilesOk := by
  intro p
  rw [h.profile]
  decide

theorem AtReset.waitingOk {s : State} (h : AtReset s) : s.WaitingOk := by
  intro g
  rw [list_of_vecConst h.waiting]
  refine ⟨List.nodup_nil, fun t => ?_⟩
  rw [h.tun]
  simp [Tunnel.reset]

theorem AtReset.derivationsOk {s : State} (h : AtReset s) : s.DerivationsOk := by
  simp [State.DerivationsOk, State.deriving, h.kduQueue, h.kduFlight]

theorem AtReset.windowsOk {s : State} (h : AtReset s) : s.WindowsOk := by
  intro t
  rw [h.tun]
  exact ⟨nofun, nofun, nofun⟩

theorem AtReset.arithmeticOk {s : State} (h : AtReset s) : s.ArithmeticOk := by
  refine ⟨h.profilesOk, fun t => ?_⟩
  rw [h.tun]
  exact ⟨toOff_inBounds Health.reset, Nat.zero_le _, Nat.zero_le _⟩

theorem reset_contextsOk : Tunnel.reset.ContextsOk := by
  simp [Tunnel.ContextsOk, Tunnel.reset, KeyState.isOffering, KeyState.renewable]

theorem reset_numbersOk : Tunnel.reset.NumbersOk := by
  simp [Tunnel.NumbersOk, Tunnel.reset, KeyState.target]

theorem reset_restOk : Tunnel.reset.RestOk := by
  simp [Tunnel.RestOk, Tunnel.reset, KeyState.bare]

theorem reset_healthOk : Tunnel.reset.HealthOk := by
  simp [Tunnel.HealthOk, Tunnel.reset, Health.toOff, Health.reset]

theorem reset_withinLimits : Tunnel.reset.WithinLimits Profile.default := by
  simp [Tunnel.WithinLimits, Tunnel.reset, Tunnel.dataFrames, Health.reset, Profile.default]

theorem AtReset.keyingOk {s : State} (h : AtReset s) : s.KeyingOk := by
  refine ⟨h.profilesOk, fun t => ?_⟩
  rw [h.tun]
  exact ⟨reset_contextsOk, reset_numbersOk, reset_restOk⟩

theorem AtReset.healthOk {s : State} (h : AtReset s) : s.HealthOk := fun t => (h.tun t).symm ▸ reset_healthOk

theorem AtReset.limitsOk {s : State} (h : AtReset s) : s.LimitsOk := by
  intro t
  have hprofile : s.prof t = Profile.default := h.profile _
  rw [hprofile, h.tun]
  exact reset_withinLimits

theorem afterReset_atReset (straps : BitVec 6) : AtReset (State.afterReset straps) := ⟨rfl, rfl, rfl, rfl, rfl⟩

theorem straps_not_broadcast (straps : BitVec 6) : straps.setWidth 16 ≠ broadcastLabel := by
  revert straps
  decide

theorem afterReset_settingsOk (straps : BitVec 6) : (State.afterReset straps).SettingsOk := by
  refine ⟨(afterReset_atReset straps).profilesOk, ?_, ?_, ?_, ⟨?_, ?_⟩, ⟨?_, ?_⟩, ⟨?_, ?_⟩, ?_, straps_not_broadcast straps⟩ <;>
    simp [State.afterReset]

theorem sum_of_vecConst {α : Type} {n : Nat} {x : α} {f : α → Nat} (h : f x = 0) : ((vecConst n x).toList.map f).sum = 0 := by
  refine List.sum_eq_zero fun m hm => ?_
  obtain ⟨y, hy, rfl⟩ := List.mem_map.mp hm
  rw [List.eq_of_mem_replicate hy, h]

theorem filter_of_vecConst {α : Type} {n : Nat} {x : α} {f : α → Bool} (h : f x = false) : (vecConst n x).toList.filter f = [] := by
  refine List.filter_eq_nil_iff.mpr fun y hy => ?_
  rw [List.eq_of_mem_replicate hy, h]
  exact Bool.false_ne_true

theorem afterReset_slotsOk (straps : BitVec 6) : (State.afterReset straps).SlotsOk := by
  have hqueues : ((State.afterReset straps).tunnels.toList.map fun t => t.egress.length).sum = 0 := sum_of_vecConst rfl
  have hports : ((State.afterReset straps).uplinks.toList.filter fun u => u.tx.isSome) = [] := filter_of_vecConst rfl
  simp only [State.SlotsOk, State.usedSlots, hqueues, hports]
  exact Nat.zero_le _

/-- Settles O4: each promise of the reset values. -/
theorem resetIsSound : Obligations.ResetIsSound := by
  intro straps s
  have hreset := afterReset_atReset straps
  refine ⟨⟨List.nodup_nil, Nat.zero_le _, nofun⟩, ?_, ⟨Nat.zero_le _, Nat.zero_le _, Nat.zero_le _⟩, afterReset_slotsOk straps,
    hreset.waitingOk, afterReset_settingsOk straps, hreset.keyingOk, hreset.derivationsOk, hreset.windowsOk, hreset.healthOk,
    hreset.arithmeticOk, hreset.limitsOk⟩
  change false = (State.afterReset straps).indicatorLevel
  rw [indicatorLevel_high _ rfl]
  simp [State.afterReset]

/-! ### The pin reset and the group swap -/

theorem pinReset_atReset (straps : BitVec 6) (s : State) : AtReset (pinReset straps s) := ⟨rfl, rfl, rfl, rfl, rfl⟩

theorem pinReset_slotsOk (straps : BitVec 6) (s : State) : (pinReset straps s).SlotsOk := by
  have hqueues : ((pinReset straps s).tunnels.toList.map fun t => t.egress.length).sum = 0 := sum_of_vecConst rfl
  have hports : ((pinReset straps s).uplinks.toList.filter fun u => u.tx.isSome) = [] := by
    change (s.uplinks.toList.map fun x : Uplink => { Uplink.reset with carrier := x.carrier }).filter (fun u => u.tx.isSome) = []
    refine List.filter_eq_nil_iff.mpr fun y hy => ?_
    obtain ⟨x, -, rfl⟩ := List.mem_map.mp hy
    exact Bool.false_ne_true
  simp only [State.SlotsOk, State.usedSlots, hqueues, hports]
  exact Nat.zero_le _

theorem keeps_pinReset (straps : BitVec 6) (s : State) : Keeps s (pinReset straps s) := by
  have hreset := pinReset_atReset straps s
  refine ⟨⟨rfl, fun _ => ⟨List.nodup_nil, Nat.zero_le _, nofun⟩, fun _ => ?_,
    fun _ => ⟨Nat.zero_le _, Nat.zero_le _, Nat.zero_le _⟩, fun _ => pinReset_slotsOk straps s, fun _ => hreset.waitingOk,
    fun _ => afterReset_settingsOk straps, fun _ => hreset.windowsOk, fun _ => hreset.arithmeticOk⟩,
    fun _ => hreset.derivationsOk⟩
  change false = (pinReset straps s).indicatorLevel
  rw [indicatorLevel_high _ rfl]
  simp [pinReset, State.afterReset]

theorem mem_waitingInOrder {s : State} {t : TunnelId} : t ∈ s.waitingInOrder ↔ ∃ g, t ∈ s.list g := by
  simp only [State.waitingInOrder, List.mem_append]
  constructor
  · rintro (((h | h) | h) | h)
    exacts [⟨0, h⟩, ⟨1, h⟩, ⟨2, h⟩, ⟨3, h⟩]
  · rintro ⟨g, hg⟩
    match g with
    | 0 => exact .inl (.inl (.inl hg))
    | 1 => exact .inl (.inl (.inr hg))
    | 2 => exact .inl (.inr hg)
    | 3 => exact .inr hg

theorem waitingInOrder_nodup {s : State} (h : s.WaitingOk) : s.waitingInOrder.Nodup := by
  have hapart {g g' : UplinkId} (hg : g ≠ g') : List.Disjoint (s.list g) (s.list g') := fun t ht ht' =>
    hg ((((h g).2 t).mp ht).2.symm.trans (((h g').2 t).mp ht').2)
  have h01 := (h 0).1.append (h 1).1 (hapart (by decide))
  have h012 := h01.append (h 2).1 (List.disjoint_append_left.mpr ⟨hapart (by decide), hapart (by decide)⟩)
  exact h012.append (h 3).1 (List.disjoint_append_left.mpr
    ⟨List.disjoint_append_left.mpr ⟨hapart (by decide), hapart (by decide)⟩, hapart (by decide)⟩)

theorem swapGroups_list (s : State) (g : UplinkId) : (swapGroups s).list g
    = s.waitingInOrder.filter fun t => decide (((s.tun t).regroup s.shadowGroupFlags).cfg.activeGroup = g) := by
  have htun (t : TunnelId) : (mapTunnels (Tunnel.regroup s.shadowGroupFlags) s).tun t = (s.tun t).regroup s.shadowGroupFlags :=
    mapTunnels_tun _ s t
  simp only [← htun]
  match g with
  | 0 => rfl
  | 1 => rfl
  | 2 => rfl
  | 3 => rfl

theorem swapGroups_tun (s : State) (t : TunnelId) : (swapGroups s).tun t = (s.tun t).regroup s.shadowGroupFlags :=
  tun_of_vecMap rfl t

theorem swapGroups_waitingOk {s : State} (h : s.WaitingOk) : (swapGroups s).WaitingOk := by
  intro g
  rw [swapGroups_list]
  refine ⟨(waitingInOrder_nodup h).filter _, fun t => ?_⟩
  rw [List.mem_filter, mem_waitingInOrder, swapGroups_tun, decide_eq_true_eq]
  refine and_congr_left fun _ => ⟨fun ⟨g', hg'⟩ => (((h g').2 t).mp hg').1, fun hne => ⟨_, ((h _).2 t).mpr ⟨hne, rfl⟩⟩⟩

theorem keeps_swapGroups (s : State) : Keeps s (swapGroups s) := by
  refine ⟨⟨rfl, id, id, id, fun h => ?_, swapGroups_waitingOk, id, fun h t => ?_, fun h => ⟨h.1, fun t => ?_⟩⟩,
    fun h => derivations_of_states h rfl rfl fun t _ => ?_⟩
  · have hused := mapTunnels_usedSlots (f := Tunnel.regroup s.shadowGroupFlags) (fun _ => rfl) s
    change (mapTunnels (Tunnel.regroup s.shadowGroupFlags) s).usedSlots ≤ 4096
    rw [hused]
    exact h
  · rw [swapGroups_tun]
    exact h t
  · rw [swapGroups_tun]
    exact h.2 t
  · rw [swapGroups_tun]
    rfl

/-! ### Ports and notices -/

theorem keeps_clockAt (s : State) (sub : Fin 100) : Keeps s (s.clockAt sub) := ⟨⟨rfl, id, id, id, id, id, id, id, id⟩, id⟩

theorem keeps_live {f : State → State} {s : State} (h : Keeps s (f s)) : Keeps s (s.live f) :=
  .ite (fun _ => .refl s) fun _ => h

theorem keeps_receiveUp (u : UplinkId) (f : CarrierFrame) (fcsOk : Bool) (s : State) : Keeps s (receiveUp u f fcsOk s) := by
  have hcount : Keeps s (s.modUplink u fun x => { x with rxError := satInc x.rxError, rxErrors := x.rxErrors + 1 }) :=
    keeps_modUplink u _ s fun _ => by left; rfl
  exact .ite (fun _ => keeps_deliver u f s) fun _ => .ite (fun _ => hcount.trans (keeps_enterErrored u _ _)) fun _ => hcount

theorem keeps_receiveErrored (u : UplinkId) (f : CarrierFrame) (fcsOk : Bool) (s : State) :
    Keeps s (receiveErrored u f fcsOk s) :=
  .ite (fun _ => ((keeps_autoReturn u s).trans (keeps_deliver u f _)).trans (keeps_serveAll _)) fun _ => .refl s

theorem keeps_carrierLost (u : UplinkId) (s : State) : Keeps s (carrierLost u s) := by
  unfold carrierLost
  split
  · exact keeps_enterErrored u _ s
  · exact keeps_modUplink u _ s fun _ => by left; rfl
  · exact .refl s

theorem keeps_carrierReturned (u : UplinkId) (s : State) : Keeps s (carrierReturned u s) :=
  .ite (fun _ => (keeps_autoReturn u s).trans (keeps_serveAll _)) fun _ => .refl s

theorem keeps_takeDerived {d : KduFlight} {s : State} : KeepsCore s (takeDerived d s)
    ∧ ((∀ t ∈ d.owner, t ∉ s.deriving) → s.DerivationsOk → (takeDerived d s).DerivationsOk) := by
  unfold takeDerived
  split
  · exact ⟨(Keeps.refl s).toKeepsCore, fun _ => id⟩
  · rename_i t howner hkind
    exact ⟨keeps_completeBootstrap.1, fun hfree => keeps_completeBootstrap.2 (hfree t howner)⟩
  · rename_i t target b n howner hkind
    split
    · exact ⟨(keeps_switchGeneration t target d.inputs s).1,
        fun hfree => (keeps_switchGeneration t target d.inputs s).2 (hfree t howner)⟩
    · exact ⟨(Keeps.refl s).toKeepsCore, fun _ => id⟩

theorem keeps_afterDerived (owner : Option TunnelId) (s : State) : Keeps s (afterDerived owner s) := by
  unfold afterDerived
  split
  · exact keeps_startDerivation s
  · exact (keeps_startDerivation s).trans (keeps_settle _ _)

theorem keeps_unitFreed (s : State) (sub : Fin 100) : Keeps s { s.clockAt sub with kduFlight := none } :=
  (keeps_clockAt s sub).trans (keeps_fewer (s := s.clockAt sub) (List.Sublist.refl _) nofun)

theorem owner_not_queued {s : State} (h : s.DerivationsOk) {d : KduFlight} (hd : s.kduFlight = some d) {t : TunnelId}
    (ht : t ∈ d.owner) : t ∉ s.kduQueue.map KduEntry.tunnel := by
  have hnodup := h.1
  have howner : d.owner = some t := ht
  rw [State.deriving, hd, Option.bind_some, howner, Option.toList_some, List.singleton_append, List.nodup_cons] at hnodup
  exact hnodup.1

theorem keeps_completed {s : State} {d : KduFlight} (hd : s.kduFlight = some d) (sub : Fin 100) :
    Keeps s (afterDerived d.owner (takeDerived d { s.clockAt sub with kduFlight := none })) := by
  have hfreed := keeps_unitFreed s sub
  have htail := keeps_afterDerived d.owner (takeDerived d { s.clockAt sub with kduFlight := none })
  refine ⟨(hfreed.toKeepsCore.trans keeps_takeDerived.1).trans htail.toKeepsCore, fun h => htail.derivations ?_⟩
  exact keeps_takeDerived.2 (fun t ht => owner_not_queued h hd ht) (hfreed.derivations h)

theorem keeps_endJitterDelay {t : TunnelId} {s : State} (h : (s.tun t).keyState = .pending) : Keeps s (endJitterDelay t s) := by
  have hjitter : Keeps s (s.modTun t fun x => { x with jitter := none }) := keeps_setTun_inert rfl rfl rfl id id
  refine .ite (fun _ => hjitter.trans ?_) fun _ => (hjitter.trans (keeps_startRenewal t _)).trans (keeps_settle t _)
  refine keeps_setTun rfl rfl (fun hs => .inr (not_deriving hs (underived_of_renewable ?_))) id fun hs => hs.2 t
  rw [State.modTun, State.tun_setTun_self]
  exact congrArg KeyState.renewable h

theorem endInterval_bounds {s : State} (h : s.ArithmeticOk) (t : TunnelId) :
    TunnelBounds ((s.tun t).endInterval s.profiles) := by
  obtain ⟨hprofiles, htunnels⟩ := h
  obtain ⟨hhealth, hrate, hsample⟩ := htunnels t
  obtain ⟨-, -, ⟨-, hbeta⟩, -⟩ := hprofiles (s.tun t).cfg.profile
  have hfilter := rateFilter_bounds (s.tun t).rate (s.tun t).sample
    (hbeta.trans (by decide : 255 ≤ 256) : s.profiles[(s.tun t).cfg.profile].rateBeta ≤ 256)
  refine ⟨hhealth, ?_, Nat.zero_le _⟩
  change (if _ then _ else _) ≤ 1048560
  split
  · omega
  · exact hrate

theorem keeps_intervalEnd (s : State) : Keeps s (allTunnels.foldl dueTest
    { s with intervalEnd := false, tunnels := vecMap (Tunnel.endInterval s.profiles) s.tunnels }) := by
  have hmap : Keeps s (mapTunnels (Tunnel.endInterval s.profiles) s) :=
    keeps_mapTunnels (fun _ => rfl) (fun _ => rfl) (fun _ => rfl) (fun _ => id) endInterval_bounds
  have hflag : Keeps (mapTunnels (Tunnel.endInterval s.profiles) s)
      { s with intervalEnd := false, tunnels := vecMap (Tunnel.endInterval s.profiles) s.tunnels } :=
    ⟨⟨rfl, id, id, id, id, id, id, id, id⟩, id⟩
  exact (hmap.trans hflag).trans (keeps_foldl keeps_dueTest _ _)

theorem keeps_takeDormancyExpiry (t : TunnelId) (s : State) : Keeps s (takeDormancyExpiry t s) :=
  .ite (fun _ => keeps_enterDormant _) fun _ => keeps_setTun_inert rfl rfl rfl id id

theorem keeps_reportStreaming (s : State) : Keeps s (reportStreaming s) :=
  (keeps_sendNotice s).trans (keeps_expiries (sendNotice s) _ _ _)

theorem keeps_reportEvent (s : State) : Keeps s (reportEvent s) := by
  refine .ite (fun _ => ?_) fun _ => keeps_expiries s _ _ _
  split
  · exact keeps_sendArmed s
  · exact keeps_expiries s _ _ _

theorem keeps_endHoldoff (s : State) : Keeps s (endHoldoff s) := by
  have hended : Keeps s { s with holdoffExpiry := none, noticePending := false } := keeps_expiries s _ _ _
  exact .ite (fun _ => hended.trans (keeps_sendArmed _)) fun _ => hended

theorem keeps_startOfficeTx {s : State} {f : OfficeFrame} {rest : List OfficeFrame} (hidle : s.officeTx = none)
    (hqueue : s.officeQueue = f :: rest) : Keeps s { s with officeQueue := rest, officeTx := some f.onWire } := by
  refine ⟨⟨rfl, id, id, fun ⟨hold, office, cascade⟩ => ⟨hold, ?_, cascade⟩, fun h => ?_, id, id, id, id⟩, id⟩
  · rw [hqueue, List.length_cons] at office
    exact Nat.le_of_succ_le office
  · have hslots : s.usedSlots ≤ 4096 := h
    simp only [State.usedSlots, hidle, hqueue, List.length_cons, Option.toList_none, List.length_nil] at hslots
    change (s.tunnels.toList.map fun t => t.egress.length).sum + rest.length + 1
      + (s.uplinks.toList.filter fun u => u.tx.isSome).length ≤ 4096
    omega

theorem keeps_endOfficeTx (s : State) : Keeps s { s with officeTx := none } := by
  refine ⟨⟨rfl, id, id, id, fun h => ?_, id, id, id, id⟩, id⟩
  have hslots : s.usedSlots ≤ 4096 := h
  simp only [State.usedSlots] at hslots
  change (s.tunnels.toList.map fun t => t.egress.length).sum + s.officeQueue.length + 0
    + (s.uplinks.toList.filter fun u => u.tx.isSome).length ≤ 4096
  omega

/-- The uplink with nothing in transmission (R171). -/
def silentUplink (x : Uplink) : Uplink := { x with tx := none }

theorem keeps_pinResetAssert (s : State) : Keeps s { s with
    rstLow := true, faultInd := true, progress := none, kduFlight := none
    uplinks := vecMap (fun x : Uplink => { x with tx := none }) s.uplinks, officeTx := none, cascadeTx := false } := by
  have hports : Keeps s (mapUplinks silentUplink s) := keeps_mapUplinks (f := silentUplink) (fun _ h => absurd h Bool.false_ne_true) s
  have hunit : Keeps (mapUplinks silentUplink s) { mapUplinks silentUplink s with kduFlight := none } :=
    keeps_fewer (s := mapUplinks silentUplink s) (List.Sublist.refl _) nofun
  refine ((hports.trans hunit).trans (keeps_endOfficeTx _)).trans ⟨⟨rfl, id, fun _ => rfl, id, id, id, id, id, id⟩, id⟩

end Sys2Proof.Proofs
end

section

namespace Sys2Proof.Proofs

open Sys2Proof Sys2Proof.Machine

/-! ### Every row of the table -/

/-- A row of the table always leaves a next state, and keeps the promises. -/
def RowKeeps (c : Instr) : Prop := ∀ s, ∃ r, exec c s = .next r ∧ Keeps s r

theorem rowKeeps_lookup : RowKeeps .lookupTakeFrame := by
  intro s
  refine ⟨_, rfl, keeps_live ?_⟩
  split
  · rename_i f rest hholding
    exact .ite (fun _ => .refl s) fun _ => (keeps_holding s (.inr (by simp [hholding]))).trans (keeps_classify f _)
  · exact .refl s

theorem rowKeeps_inbound (u : UplinkId) : RowKeeps (.inboundTunnelFrame u) := by
  intro s
  refine ⟨_, rfl, keeps_live ?_⟩
  split
  · exact (keeps_modUplink u _ s fun _ => by left; rfl).trans (keeps_takeDelivered _ _)
  · exact .refl s

theorem rowKeeps_receive (u : UplinkId) (f : CarrierFrame) (fcsOk : Bool) (sub : Fin 100) : RowKeeps (.uplinkFrameReceive u f fcsOk sub) := by
  intro s
  refine ⟨_, rfl, keeps_live ?_⟩
  dsimp only
  have hclock := keeps_clockAt s sub
  split
  · exact hclock.trans (keeps_receiveUp u f fcsOk _)
  · exact hclock.trans (keeps_receiveErrored u f fcsOk _)
  · exact hclock

theorem keeps_carrier (u : UplinkId) (level : Bool) (s : State) :
    Keeps s (s.modUplink u fun x => { x with carrier := level }) := keeps_modUplink u _ s fun _ => by left; rfl

theorem rowKeeps_derivationComplete (sub : Fin 100) : RowKeeps (.derivationComplete sub) := by
  intro s
  refine ⟨_, rfl, keeps_live ?_⟩
  dsimp only
  split
  · exact .refl s
  · rename_i d hd
    exact keeps_completed hd sub

theorem rowKeeps_responseExpiry (t : TunnelId) : RowKeeps (.responseExpiry t) := by
  intro s
  refine ⟨_, rfl, keeps_live ?_⟩
  split
  · rename_i target hkey
    refine .ite (fun _ => Keeps.trans (.ite (fun _ => keeps_attempt t target s) fun _ => keeps_failExchange hkey)
      (keeps_settle t _)) fun _ => .refl s
  · exact .refl s

theorem rowKeeps_graceExpiry (t : TunnelId) : RowKeeps (.graceExpiry t) := by
  intro s
  refine ⟨_, rfl, keeps_live ?_⟩
  split
  · refine .ite (fun _ => Keeps.trans ?_ (keeps_postTunnel _ t _ _)) fun _ => .refl s
    exact keeps_setTun_inert rfl rfl rfl (fun h => ⟨h.1, h.2.1, nofun⟩) id
  · exact .refl s

theorem keeps_older (t : TunnelId) (s : State) : Keeps s (s.modTun t fun x => { x with cur := x.cur.map CurGen.older }) := by
  refine keeps_setTun_inert rfl rfl rfl (fun h => ⟨h.1, fun c hc => ?_, h.2.2⟩) id
  obtain ⟨c0, hc0, rfl⟩ := Option.map_eq_some_iff.mp hc
  exact h.2.1 c0 hc0

theorem keeps_takeProbeExpiry (t : TunnelId) (s : State) : Keeps s (takeProbeExpiry t s) :=
  (((keeps_dropStaleProbe t s).trans (keeps_attemptProbe t false _)).trans (keeps_armProbe t _)).trans (keeps_settle t _)

theorem keeps_txComplete (u : UplinkId) (s : State) :
    Keeps s (serveAll (s.modUplink u fun x => { x with tx := none, txCount := satInc x.txCount })) :=
  (keeps_modUplink u _ s fun _ => by right; rfl).trans (keeps_serveAll _)

theorem rowKeeps_officeTxStart : RowKeeps .officeTxStart := by
  intro s
  refine ⟨_, rfl, keeps_live ?_⟩
  split
  · rename_i f rest hidle hqueue
    exact keeps_startOfficeTx hidle hqueue
  · exact .refl s

theorem keeps_cascadeTx (s : State) (b : Bool) : Keeps s { s with cascadeTx := b } :=
  ⟨⟨rfl, id, id, id, id, id, id, id, id⟩, id⟩

theorem keeps_cascadeUp (s : State) (b : Bool) : Keeps s { s with cascadeUp := b } :=
  ⟨⟨rfl, id, id, id, id, id, id, id, id⟩, id⟩

theorem keeps_cascadeSent (s : State) : Keeps s { s with cascadeList := s.cascadeList.drop 1, cascadeTx := false } :=
  (keeps_cascadeList s (s.cascadeList.drop 1) (.inr (List.drop_sublist _ _).length_le)).trans (keeps_cascadeTx _ false)

theorem keeps_cascadeLost (s : State) :
    Keeps s { countCascadeDrop s.cascadeList.length s with cascadeList := [], cascadeTx := false } :=
  ((keeps_modCounters s fun c => { c with cascadeDrop := satAdd c.cascadeDrop s.cascadeList.length }).trans
    (keeps_cascadeList _ [] (.inl (Nat.zero_le _)))).trans (keeps_cascadeTx _ false)

theorem rowKeeps_reportExpiry : RowKeeps .reportExpiry := by
  intro s
  refine ⟨_, rfl, keeps_live ?_⟩
  refine .ite (fun _ => ?_) fun _ => .refl s
  split
  · exact keeps_reportStreaming s
  · exact keeps_reportEvent s

theorem rowKeeps_tableCopy : RowKeeps .intervalTableCopy := by
  intro s
  refine ⟨_, rfl, keeps_live ?_⟩
  split
  · exact ⟨⟨rfl, id, id, id, id, id, id, id, id⟩, id⟩
  · exact .refl s

theorem rowKeeps_groupSwap : RowKeeps .groupSwap := by
  intro s
  refine ⟨_, rfl, keeps_live ?_⟩
  dsimp only
  split
  · exact ((keeps_swapGroups s).trans (keeps_progress _ _)).trans (keeps_serveAll _)
  · exact .refl s

theorem rowKeeps_applyComplete : RowKeeps .applyTablesComplete := by
  intro s
  refine ⟨_, rfl, keeps_live ?_⟩
  have hdone : Keeps s { s with paused := false, progress := none } := ⟨⟨rfl, id, id, id, id, id, id, id, id⟩, id⟩
  split
  · exact hdone.trans (keeps_sendReply _ _ _ _ _ _)
  · exact .refl s

theorem rowKeeps_levelTwoComplete : RowKeeps .resetLevel2Complete := by
  intro s
  refine ⟨_, rfl, keeps_live ?_⟩
  dsimp only
  split
  · exact (((keeps_startAllInitialKeying s).trans (keeps_progress _ none)).trans (keeps_sendReply _ _ _ _ _ _)).trans
      (keeps_serveAll _)
  · exact .refl s

theorem rowKeeps_levelThree (straps : BitVec 6) : RowKeeps (.resetLevel3Perform straps) := by
  intro s
  refine ⟨_, rfl, keeps_live ?_⟩
  split
  · exact .ite (fun _ => .refl s) fun _ => (keeps_pinReset straps s).trans (keeps_sendReply _ _ _ _ _ _)
  · exact .refl s

/-- Every row of the table leaves a next state, with the promises kept and the queue of commands as it is. -/
theorem exec_keeps (c : Instr) : RowKeeps c := by
  intro s
  cases hwire : c.wire with
  | some w =>
    obtain ⟨h, code, pl⟩ := w
    obtain ⟨op, hop, hrow⟩ := exec_isCommand hwire
    exact ⟨_, hrow s, keeps_live (keeps_commandRow hop.keeps h code s)⟩
  | none =>
    cases c with
    | officeFrameArrival a => exact ⟨_, rfl, keeps_live (.ite (fun _ => keeps_typeStage a.frame a.prov s) fun _ => keeps_modCounters s _)⟩
    | lookupTakeFrame => exact rowKeeps_lookup s
    | uplinkFrameReceive u f fcsOk sub => exact rowKeeps_receive u f fcsOk sub s
    | carrierLoss u => exact ⟨_, rfl, .ite (fun _ => (keeps_carrier u false s).trans (keeps_live (keeps_carrierLost u _))) fun _ => keeps_carrier u false s⟩
    | carrierReturn u => exact ⟨_, rfl, .ite (fun _ => keeps_carrier u true s) fun _ => (keeps_carrier u true s).trans (keeps_live (keeps_carrierReturned u _))⟩
    | inboundTunnelFrame u => exact rowKeeps_inbound u s
    | derivationStart => exact ⟨_, rfl, keeps_live (keeps_startDerivation s)⟩
    | derivationComplete sub => exact rowKeeps_derivationComplete sub s
    | responseExpiry t => exact rowKeeps_responseExpiry t s
    | retryHoldoffExpiry t => exact ⟨_, rfl, keeps_live (.ite (fun _ => keeps_setTun_inert rfl rfl rfl id id) fun _ => .refl s)⟩
    | jitterDelayExpiry t => exact ⟨_, rfl, keeps_live (.ite (fun h => keeps_endJitterDelay h.1) fun _ => .refl s)⟩
    | graceExpiry t => exact rowKeeps_graceExpiry t s
    | ageIncrement t => exact ⟨_, rfl, keeps_live (.ite (fun _ => keeps_older t s) fun _ => .refl s)⟩
    | rateIntervalEnd => exact ⟨_, rfl, keeps_live (.ite (fun _ => keeps_intervalEnd s) fun _ => .refl s)⟩
    | probeExpiry t sub => exact ⟨_, rfl, keeps_live (.ite (fun _ => (keeps_clockAt s sub).trans (keeps_takeProbeExpiry t _)) fun _ => .refl s)⟩
    | dormancyExpiry t => exact ⟨_, rfl, keeps_live (.ite (fun _ => keeps_takeDormancyExpiry t s) fun _ => .refl s)⟩
    | dormantEntry t => exact ⟨_, rfl, keeps_live (keeps_enterIfWaiting t s)⟩
    | grant g => exact ⟨_, rfl, keeps_live (keeps_grantOne g s)⟩
    | uplinkTxComplete u => exact ⟨_, rfl, keeps_live (.ite (fun _ => keeps_txComplete u s) fun _ => .refl s)⟩
    | groupDiscard g => exact ⟨_, rfl, keeps_live (keeps_discardOne g s)⟩
    | officeTxStart => exact rowKeeps_officeTxStart s
    | officeTxComplete => exact ⟨_, rfl, keeps_live (keeps_endOfficeTx s)⟩
    | cascadeTxStart => exact ⟨_, rfl, keeps_live (.ite (fun _ => ⟨⟨rfl, id, id, id, id, id, id, id, id⟩, id⟩) fun _ => .refl s)⟩
    | cascadeTxComplete => exact ⟨_, rfl, keeps_live (.ite (fun _ => keeps_cascadeSent s) fun _ => .refl s)⟩
    | cascadeLinkDown => exact ⟨_, rfl, (keeps_cascadeUp s false).trans (keeps_live (keeps_cascadeLost _))⟩
    | cascadeLinkUp => exact ⟨_, rfl, keeps_cascadeUp s true⟩
    | cascadeFrameReceive f fcsOk => exact ⟨_, rfl, keeps_live (.ite (fun _ => .ite (fun _ => keeps_offerReserved .cascade f s) fun _ => keeps_modCounters s _)
        fun _ => .refl s)⟩
    | reportExpiry => exact rowKeeps_reportExpiry s
    | noticeHoldoffExpiry => exact ⟨_, rfl, keeps_live (.ite (fun _ => keeps_endHoldoff s) fun _ => .refl s)⟩
    | intervalTableCopy => exact rowKeeps_tableCopy s
    | groupSwap => exact rowKeeps_groupSwap s
    | applyTablesComplete => exact rowKeeps_applyComplete s
    | resetLevel2Complete => exact rowKeeps_levelTwoComplete s
    | resetLevel3Perform straps => exact rowKeeps_levelThree straps s
    | pinResetAssert => exact ⟨_, rfl, keeps_pinResetAssert s⟩
    | pinResetRelease straps => exact ⟨_, rfl, .ite (fun _ => keeps_pinReset straps s) fun _ => .refl s⟩
    | tick => exact ⟨_, rfl, keeps_live ⟨⟨rfl, id, id, id, id, id, id, id, id⟩, id⟩⟩
    | _ => simp [Instr.wire] at hwire

/-- Settles O2: no row of the table touches the queue. -/
theorem commandsLeaveTheQueue : Obligations.CommandsLeaveTheQueue := by
  intro c s
  obtain ⟨r, hrow, hkeeps⟩ := exec_keeps c s
  exact ⟨r, hrow, hkeeps.pending⟩

/-- A step keeps what every row of the table keeps. -/
theorem step_keeps {s r : State} (h : step s = .next r) : ∃ q, Keeps { s with pending := q } r := by
  unfold step at h
  split at h
  · obtain rfl := Host.Outcome.next.inj h
    exact ⟨s.pending, .refl s⟩
  · rename_i c rest _
    obtain ⟨r', hrow, hkeeps⟩ := exec_keeps c { s with pending := rest }
    obtain rfl := Host.Outcome.next.inj (hrow.symm.trans h)
    exact ⟨rest, hkeeps⟩

/-- Settles O5. -/
theorem stepsKeepTheFaultReporter : Obligations.StepsKeepTheFaultReporter := by
  refine ⟨fun s r hs hstep => ?_, fun s r hs hstep => ?_⟩
  · obtain ⟨q, hkeeps⟩ := step_keeps hstep
    exact hkeeps.faults hs
  · obtain ⟨q, hkeeps⟩ := step_keeps hstep
    exact hkeeps.indicator hs

/-- Settles O6. -/
theorem stepsKeepTheBuffers : Obligations.StepsKeepTheBuffers := by
  refine ⟨fun s r hs hstep => ?_, fun s r hs hstep => ?_⟩
  · obtain ⟨q, hkeeps⟩ := step_keeps hstep
    exact hkeeps.queues hs
  · obtain ⟨q, hkeeps⟩ := step_keeps hstep
    exact hkeeps.slots hs

/-- Settles O7. -/
theorem stepsKeepTheWaitingLists : Obligations.StepsKeepTheWaitingLists := by
  intro s r hs hstep
  obtain ⟨q, hkeeps⟩ := step_keeps hstep
  exact hkeeps.waiting hs

/-- Settles O8. -/
theorem stepsKeepTheSettings : Obligations.StepsKeepTheSettings := by
  intro s r hs hstep
  obtain ⟨q, hkeeps⟩ := step_keeps hstep
  exact hkeeps.settings hs

/-- Settles O10. -/
theorem stepsKeepTheDerivations : Obligations.StepsKeepTheDerivations := by
  intro s r hs hstep
  obtain ⟨q, hkeeps⟩ := step_keeps hstep
  exact hkeeps.derivations hs

/-- Settles O11. -/
theorem stepsKeepTheWindows : Obligations.StepsKeepTheWindows := by
  intro s r hs hstep
  obtain ⟨q, hkeeps⟩ := step_keeps hstep
  exact hkeeps.windows hs

/-- Settles O13. -/
theorem stepsKeepTheArithmetic : Obligations.StepsKeepTheArithmetic := by
  intro s r hs hstep
  obtain ⟨q, hkeeps⟩ := step_keeps hstep
  exact hkeeps.arithmetic hs

end Sys2Proof.Proofs
end

section

namespace Sys2Proof.Proofs

open Sys2Proof Sys2Proof.Machine

/-! ### What the keying state of a tunnel asks of its entry (R55, R56, R75, R143) -/

/-- What R55, R56, R75 and R143 promise of one tunnel. -/
abbrev KeyedOk (x : Tunnel) : Prop := x.ContextsOk ∧ x.NumbersOk ∧ x.RestOk

/-- A dormant tunnel is enabled and its shop is Closed (R137, R143). -/
def SleepOk (x : Tunnel) : Prop := x.dormant = true → x.cfg.enabled = true ∧ x.shop = .closed

/-- A dormancy timer runs, or has run out, for an enabled tunnel that is awake and whose shop is Closed (R139, R140). -/
def TimerOk (x : Tunnel) : Prop :=
  x.dormancyExpiry.isSome = true ∨ x.dormancyDue = true → x.cfg.enabled = true ∧ x.shop = .closed ∧ x.dormant = false

/-- The generation numbers (R75). -/
def Numbered (x : Tunnel) : Prop :=
  ∀ c ∈ x.cur, c.number ≠ 0 ∧ ∀ p ∈ x.prev, p.number ≠ 0 ∧ c.number = nextGeneration p.number

/-- No generation, exchange or delay (R55, R56). -/
structure Barren (x : Tunnel) : Prop where
  cur : x.cur = none
  prev : x.prev = none
  nonce : x.nonce = none
  attempts : x.attempts = 0
  jitter : x.jitter = none
  grace : x.grace = none
  sleep : SleepOk x
  timer : TimerOk x

/-- A tunnel with its secret and generation 0, enabled, whose generations are in order (R55, R75). -/
structure Established (x : Tunnel) : Prop where
  secret : x.secret.isSome = true
  gen0 : x.gen0.isSome = true
  enabled : x.cfg.enabled = true
  prev : x.cur = none → x.prev = none
  grace : x.grace.isSome = true ↔ x.prev.isSome = true
  numbered : Numbered x
  timer : TimerOk x

theorem barren_of_bare {x : Tunnel} (h : KeyedOk x) (hbare : x.keyState.bare = true) : Barren x := by
  obtain ⟨⟨-, -, cur, -, prev, nonce, attempts, -, -, jitter, grace⟩, -, -, sleep, timer⟩ := h
  have hcur := cur hbare
  have hprev := prev hcur
  have hoffering : x.keyState.isOffering = false := by
    revert hbare
    cases x.keyState <;> simp [KeyState.bare, KeyState.isOffering]
  have hpending : x.keyState ≠ .pending := fun hk => by simp [hk, KeyState.bare] at hbare
  exact {
    cur := hcur, prev := hprev, nonce := by simpa [hoffering] using nonce
    attempts := by simpa [hoffering] using attempts, jitter := by simpa [hpending] using jitter
    grace := by simpa [hprev] using grace, sleep := fun hd => ⟨(sleep hd).1, (sleep hd).2.1⟩, timer := timer }

theorem established_of_not_bare {x : Tunnel} (h : KeyedOk x) (hbare : x.keyState.bare = false) : Established x := by
  obtain ⟨⟨secret, gen0, -, -, prev, -, -, -, -, -, grace⟩, ⟨numbered, -⟩, enabled, -, timer⟩ := h
  have hkeys : x.keyState ≠ .noSecret ∧ x.keyState ≠ .bootstrap :=
    ⟨fun hk => by simp [hk, KeyState.bare] at hbare, fun hk => by simp [hk, KeyState.bare] at hbare⟩
  exact {
    secret := secret.mpr hkeys.1, gen0 := gen0.mpr hkeys, enabled := enabled hbare, prev := prev, grace := grace
    numbered := numbered, timer := timer }

theorem keyedOk_of_barren {x : Tunnel} (hbare : x.keyState.bare = true) (b : Barren x)
    (hsecret : x.secret.isSome = true ↔ x.keyState ≠ .noSecret)
    (hgen0 : x.gen0.isSome = true ↔ x.keyState ≠ .noSecret ∧ x.keyState ≠ .bootstrap)
    (hholdoff : x.holdoff.isSome = true → x.keyState = .unkeyed) : KeyedOk x := by
  have hquiet : x.keyState.isOffering = false ∧ x.keyState.renewable = false ∧ x.keyState ≠ .pending
      ∧ x.keyState.target = none := by
    revert hbare
    cases x.keyState <;> simp [KeyState.bare, KeyState.isOffering, KeyState.renewable, KeyState.target]
  obtain ⟨hoffering, hrenewable, hpending, htarget⟩ := hquiet
  refine ⟨⟨hsecret, hgen0, fun _ => b.cur, ?_, fun _ => b.prev, ?_, ?_, ?_, fun hh => .inl (hholdoff hh), ?_, ?_⟩, ⟨?_, ?_⟩, ?_, ?_,
    b.timer⟩
  · simp [hrenewable]
  · simp [b.nonce, hoffering]
  · simp [b.attempts, hoffering]
  · simp [b.attempts]
  · simp [b.jitter, hpending]
  · simp [b.grace, b.prev]
  · simp [b.cur]
  · simp [htarget]
  · simp [hbare]
  · exact fun hd => ⟨(b.sleep hd).1, (b.sleep hd).2, .inl hbare⟩

theorem keyedOk_of_established {x : Tunnel} (hbare : x.keyState.bare = false) (e : Established x)
    (hcur : x.keyState.renewable = true → x.cur.isSome = true)
    (hnonce : x.nonce.isSome = true ↔ x.keyState.isOffering = true)
    (hattempts : x.attempts ≠ 0 ↔ x.keyState.isOffering = true) (hfew : x.attempts ≤ 8)
    (hholdoff : x.holdoff.isSome = true → x.keyState = .keyed) (hjitter : x.jitter.isSome = true ↔ x.keyState = .pending)
    (htarget : ∀ g ∈ x.keyState.target, g = x.nextTarget)
    (hsleep : x.dormant = true → x.shop = .closed ∧ x.keyState = .keyed) : KeyedOk x := by
  have hkeys : x.keyState ≠ .noSecret ∧ x.keyState ≠ .bootstrap :=
    ⟨fun hk => by simp [hk, KeyState.bare] at hbare, fun hk => by simp [hk, KeyState.bare] at hbare⟩
  exact ⟨⟨by simp [e.secret, hkeys.1], by simp [e.gen0, hkeys], by simp [hbare], hcur, e.prev, hnonce, hattempts, hfew,
    fun hh => .inr (hholdoff hh), hjitter, e.grace⟩, ⟨e.numbered, htarget⟩, fun _ => e.enabled,
    fun hd => ⟨e.enabled, (hsleep hd).1, .inr (hsleep hd).2⟩, e.timer⟩

theorem awake_of_exchange {x : Tunnel} (h : KeyedOk x) (hbare : x.keyState.bare = false) (hkey : x.keyState ≠ .keyed) :
    x.dormant = false := by
  obtain ⟨-, -, -, sleep, -⟩ := h
  by_contra hd
  rcases (sleep (by simpa using hd)).2.2 with hb | hk
  · simp [hbare] at hb
  · exact hkey hk

theorem quiet_of_not_offering {x : Tunnel} (h : KeyedOk x) (hkey : x.keyState.isOffering = false) :
    x.nonce = none ∧ x.attempts = 0 := by
  obtain ⟨⟨-, -, -, -, -, nonce, attempts, -, -, -, -⟩, -, -⟩ := h
  exact ⟨by simpa [hkey] using nonce, by simpa [hkey] using attempts⟩

theorem undelayed_of_not_pending {x : Tunnel} (h : KeyedOk x) (hkey : x.keyState ≠ .pending) : x.jitter = none := by
  obtain ⟨⟨-, -, -, -, -, -, -, -, -, jitter, -⟩, -, -⟩ := h
  simpa [hkey] using jitter

theorem no_holdoff {x : Tunnel} (h : KeyedOk x) (hunkeyed : x.keyState ≠ .unkeyed) (hkeyed : x.keyState ≠ .keyed) :
    x.holdoff = none := by
  obtain ⟨⟨-, -, -, -, -, -, -, -, holdoff, -, -⟩, -, -⟩ := h
  simpa [hunkeyed, hkeyed] using holdoff

theorem current_of_renewable {x : Tunnel} (h : KeyedOk x) (hkey : x.keyState.renewable = true) : x.cur.isSome = true := by
  obtain ⟨⟨-, -, -, cur, -⟩, -, -⟩ := h
  exact cur hkey

theorem target_of_exchange {x : Tunnel} (h : KeyedOk x) {g : BitVec 8} (hkey : x.keyState.target = some g) : g = x.nextTarget :=
  h.2.1.2 g hkey

/-! ### What keeps a tunnel in accord with its keying, its health and its limits -/

/-- What keeps tunnel entry `x` of profile `p` in accord with its keying state makes the entry `y` so; what also keeps its health
in accord keeps that, and its limits with both (R55, R111, R35, R99, R127). -/
def Serves (p : Profile) (x y : Tunnel) : Prop :=
  InRange p → KeyedOk x → KeyedOk y ∧ (x.HealthOk → y.HealthOk ∧ (x.WithinLimits p → y.WithinLimits p))

theorem Serves.refl (p : Profile) (x : Tunnel) : Serves p x x := fun _ hk => ⟨hk, fun hh => ⟨hh, id⟩⟩

theorem Serves.trans {p : Profile} {x y z : Tunnel} (h : Serves p x y) (h' : Serves p y z) : Serves p x z := by
  intro hp hk
  obtain ⟨hky, hy⟩ := h hp hk
  obtain ⟨hkz, hz⟩ := h' hp hky
  refine ⟨hkz, fun hh => ?_⟩
  obtain ⟨hhy, hly⟩ := hy hh
  obtain ⟨hhz, hlz⟩ := hz hhy
  exact ⟨hhz, hlz ∘ hly⟩

/-- A second change of which something is known from the first. -/
theorem Serves.then {p : Profile} {x y z : Tunnel} (h : Serves p x y) (h' : KeyedOk y → Serves p y z) : Serves p x z :=
  fun hp hk => h.trans (h' (h hp hk).1) hp hk

/-- A change that is in question only where the keying is in accord. -/
theorem Serves.given {p : Profile} {x y : Tunnel} (h : KeyedOk x → Serves p x y) : Serves p x y := fun hp hk => h hk hp hk

end Sys2Proof.Proofs
end

section

namespace Sys2Proof.Proofs

open Sys2Proof Sys2Proof.Machine

/-! ### A health record outside Off, and in it (R111) -/

/-- A tunnel in service with a health record outside Off that is in accord with its state (R111, R112, R119, R121, R122, R124). -/
structure Lively (x : Tunnel) : Prop where
  served : x.cfg.enabled = true ∧ x.cur ≠ none ∧ x.dormant = false
  on : x.health.state ≠ .off
  expiry : x.health.expiry.isSome = true
  closed : x.shop = .closed → x.health.state ≠ .faultedSilent ∧ x.health.miss = 0
  seeds : x.health.state ≠ .seeding → x.health.seeds = []
  suspect : x.health.state ≠ .suspect → x.health.suspect = 0
  settle : x.health.state ≠ .faultedDelay → x.health.settle = 0 ∧ x.health.snapshot = none

theorem healthOk_of_lively {x : Tunnel} (l : Lively x) : x.HealthOk := by
  obtain ⟨henabled, hcur, hawake⟩ := l.served
  exact ⟨by simp [henabled, hcur, hawake, l.on], fun h => absurd h l.on, fun _ => l.expiry, l.closed, l.seeds, l.suspect, l.settle⟩

theorem lively_of_on {x : Tunnel} (h : x.HealthOk) (hon : x.health.state ≠ .off) : Lively x := by
  obtain ⟨served, -, expiry, closed, seeds, suspect, settle⟩ := h
  have hserved := mt served.mp hon
  push Not at hserved
  exact ⟨by simpa using hserved, hon, expiry hon, closed, seeds, suspect, settle⟩

/-- A tunnel in service is not in Off (R111). -/
theorem lively_of_served {x : Tunnel} (h : x.HealthOk) (henabled : x.cfg.enabled = true) (hcur : x.cur ≠ none)
    (hawake : x.dormant = false) : Lively x := by
  refine lively_of_on h fun hoff => ?_
  have := h.1.mpr hoff
  simp [henabled, hcur, hawake] at this

theorem healthOk_of_off {x : Tunnel} (h : x.cfg.enabled = false ∨ x.cur = none ∨ x.dormant = true)
    (hrecord : x.health = x.health.toOff) : x.HealthOk := by
  have hoff : x.health.state = .off := congrArg Health.state hrecord
  refine ⟨by simp [h, hoff], fun _ => hrecord, fun hon => absurd hoff hon, fun _ => ⟨by simp [hoff], congrArg Health.miss hrecord⟩,
    fun _ => congrArg Health.seeds hrecord, fun _ => congrArg Health.suspect hrecord,
    fun _ => ⟨congrArg Health.settle hrecord, congrArg Health.snapshot hrecord⟩⟩

/-- A tunnel out of service has the record of Off (R111). -/
theorem off_of_unserved {x : Tunnel} (h : x.HealthOk) (hout : x.cfg.enabled = false ∨ x.cur = none ∨ x.dormant = true) :
    x.health = x.health.toOff := h.2.1 (h.1.mp hout)

/-- A change that leaves the record, and what service depends on. -/
theorem healthOk_of_same {x y : Tunnel} (h : x.HealthOk) (henabled : y.cfg.enabled = x.cfg.enabled)
    (hcur : y.cur = none ↔ x.cur = none) (hdormant : y.dormant = x.dormant) (hshop : y.shop = x.shop)
    (hhealth : y.health = x.health) : y.HealthOk := by
  unfold Tunnel.HealthOk at h ⊢
  rwa [henabled, hcur, hdormant, hshop, hhealth]

theorem limits_of_off {p : Profile} {x : Tunnel} (hp : InRange p) (hrecord : x.health = x.health.toOff) :
    x.health.seeds.length < p.seedCount ∧ (x.health.state = .suspect → x.health.suspect < p.suspectCount)
      ∧ x.health.miss ≤ p.missLimit ∧ (x.health.state ≠ .faultedSilent → x.health.miss < p.missLimit) := by
  have hseed : 1 ≤ p.seedCount := by obtain ⟨-, -, -, -, -, -, -, -, -, -, -, -, -, -, -, -, h, -⟩ := hp; exact h.1
  have hmissLimit : 1 ≤ p.missLimit := by obtain ⟨-, -, -, -, -, -, -, -, -, -, -, -, -, -, -, h, -⟩ := hp; exact h.1
  have hoff : x.health.state = .off := congrArg Health.state hrecord
  have hseeds : x.health.seeds = [] := congrArg Health.seeds hrecord
  have hmiss : x.health.miss = 0 := congrArg Health.miss hrecord
  refine ⟨by rw [hseeds]; exact hseed, by simp [hoff], by omega, fun _ => by omega⟩

/-- A tunnel without generations, its queue flushed and its record that of Off (R20, R23, R36, R57, R78). -/
theorem withinLimits_of_dropped {p : Profile} {x : Tunnel} (hp : InRange p) (hcur : x.cur = none) (hqueue : x.dataFrames = 0)
    (hgen0 : ∀ g ∈ x.gen0, g.lastSeq < 4294967295) (hrecord : x.health = x.health.toOff) : x.WithinLimits p :=
  ⟨by simp [hcur], hgen0, fun _ => hqueue, by omega, limits_of_off hp hrecord⟩

/-! ### Changes of the current generation that keep its number -/

theorem keyedOk_mapCur {x : Tunnel} {f : CurGen → CurGen} (hf : ∀ c, (f c).number = c.number) (h : KeyedOk x) :
    KeyedOk { x with cur := x.cur.map f } := by
  obtain ⟨⟨secret, gen0, bare, renewable, prev, keys⟩, ⟨numbered, target⟩, rest⟩ := h
  refine ⟨⟨secret, gen0, fun hk => by simp [bare hk], fun hk => by simpa using renewable hk, fun hk => prev (by simpa using hk), keys⟩,
    ⟨fun c hc => ?_, fun g hg => ?_⟩, rest⟩
  · obtain ⟨c0, hc0, rfl⟩ := Option.map_eq_some_iff.mp hc
    rw [hf]
    exact numbered c0 hc0
  · rw [target g hg]
    cases hcur : x.cur <;> simp [hf]

theorem keyedOk_mapGen0 {x : Tunnel} (f : Gen0 → Gen0) (h : KeyedOk x) : KeyedOk { x with gen0 := x.gen0.map f } := by
  obtain ⟨⟨secret, gen0, contexts⟩, rest⟩ := h
  exact ⟨⟨secret, by simpa using gen0, contexts⟩, rest⟩

theorem keyedOk_mapPrev {x : Tunnel} {f : PrevGen → PrevGen} (hf : ∀ q, (f q).number = q.number) (h : KeyedOk x) :
    KeyedOk { x with prev := x.prev.map f } := by
  obtain ⟨⟨secret, gen0, bare, renewable, prev, nonce, attempts, few, holdoff, jitter, grace⟩, ⟨numbered, target⟩, rest⟩ := h
  refine ⟨⟨secret, gen0, bare, renewable, fun hc => by simp [prev hc], nonce, attempts, few, holdoff, jitter, by simpa using grace⟩,
    ⟨fun c hc => ⟨(numbered c hc).1, fun q hq => ?_⟩, target⟩, rest⟩
  obtain ⟨q0, hq0, rfl⟩ := Option.map_eq_some_iff.mp hq
  rw [hf]
  exact (numbered c hc).2 q0 hq0

theorem healthOk_mapCur {x : Tunnel} (f : CurGen → CurGen) (h : x.HealthOk) :
    Tunnel.HealthOk { x with cur := x.cur.map f } := healthOk_of_same h rfl (by simp) rfl rfl rfl

theorem withinLimits_mapCur {p : Profile} {x : Tunnel} {f : CurGen → CurGen}
    (hf : ∀ c ∈ x.cur, c.lastSeq ≤ p.frameLimit ∧ c.age ≤ 65535 → (f c).lastSeq ≤ p.frameLimit ∧ (f c).age ≤ 65535)
    (h : x.WithinLimits p) : Tunnel.WithinLimits p { x with cur := x.cur.map f } := by
  obtain ⟨cur, gen0, unserved, rest⟩ := h
  refine ⟨fun c hc => ?_, gen0, fun hcur => unserved (by simpa using hcur), rest⟩
  obtain ⟨c0, hc0, rfl⟩ := Option.map_eq_some_iff.mp hc
  exact hf c0 hc0 (cur c0 hc0)

theorem serves_mapCur {p : Profile} {x : Tunnel} {f : CurGen → CurGen} (hnumber : ∀ c, (f c).number = c.number)
    (hf : ∀ c ∈ x.cur, c.lastSeq ≤ p.frameLimit ∧ c.age ≤ 65535 → (f c).lastSeq ≤ p.frameLimit ∧ (f c).age ≤ 65535) :
    Serves p x { x with cur := x.cur.map f } :=
  fun _ hk => ⟨keyedOk_mapCur hnumber hk, fun hh => ⟨healthOk_mapCur f hh, withinLimits_mapCur hf⟩⟩

theorem serves_older (p : Profile) (x : Tunnel) : Serves p x { x with cur := x.cur.map CurGen.older } :=
  serves_mapCur (fun _ => rfl) fun _ _ hc => ⟨hc.1, Nat.min_le_right _ _⟩

theorem serves_setWindow (p : Profile) (x : Tunnel) (m : Match) (w : Window) : Serves p x (x.setWindow m w) := by
  cases m with
  | gen0 =>
    refine fun _ hk => ⟨keyedOk_mapGen0 _ hk, fun hh => ⟨hh, fun ⟨cur, gen0, rest⟩ => ⟨cur, fun g hg => ?_, rest⟩⟩⟩
    obtain ⟨g0, hg0, rfl⟩ := Option.map_eq_some_iff.mp hg
    exact gen0 g0 hg0
  | current => exact serves_mapCur (fun _ => rfl) fun _ _ => id
  | previous => exact fun _ hk => ⟨keyedOk_mapPrev (fun _ => rfl) hk, fun hh => ⟨hh, id⟩⟩

/-- The previous generation discarded, with its grace (R50, R77). -/
theorem serves_unprevious (p : Profile) (x : Tunnel) : Serves p x { x with prev := none, grace := none } := by
  rintro - ⟨⟨secret, gen0, bare, renewable, -, nonce, attempts, few, holdoff, jitter, -⟩, ⟨numbered, target⟩, rest⟩
  exact ⟨⟨⟨secret, gen0, bare, renewable, fun _ => rfl, nonce, attempts, few, holdoff, jitter, by simp⟩,
    ⟨fun c hc => ⟨(numbered c hc).1, nofun⟩, target⟩, rest⟩, fun hh => ⟨hh, id⟩⟩

theorem serves_retirePrevious (p : Profile) (x : Tunnel) (m : Match) : Serves p x (x.retirePrevious m) := by
  unfold Tunnel.retirePrevious
  split
  · exact serves_unprevious p x
  · exact .refl p x

/-! ### The bookkeeping and the timer -/

theorem serves_holdoffOver (p : Profile) (x : Tunnel) : Serves p x { x with holdoff := none } := by
  rintro - ⟨⟨secret, gen0, bare, renewable, prev, nonce, attempts, few, -, jitter, grace⟩, rest⟩
  exact ⟨⟨⟨secret, gen0, bare, renewable, prev, nonce, attempts, few, by simp, jitter, grace⟩, rest⟩, fun hh => ⟨hh, id⟩⟩

/-- The timer of an enabled tunnel that is awake and whose shop is Closed (R140). -/
theorem serves_restArmed {p : Profile} {x : Tunnel} {e : Tick} (henabled : x.cfg.enabled = true) (hclosed : x.shop = .closed)
    (hawake : x.dormant = false) : Serves p x (restArmed e x) :=
  fun _ ⟨contexts, numbers, service, sleep, _⟩ =>
    ⟨⟨contexts, numbers, service, sleep, fun _ => ⟨henabled, hclosed, hawake⟩⟩, fun hh => ⟨hh, id⟩⟩

/-! ### The queue -/

/-- A queue of no more data frames (R99). -/
theorem serves_withQueue {p : Profile} {x : Tunnel} {q : List CarrierFrame}
    (hdata : (q.filter CarrierFrame.isData).length ≤ x.dataFrames) : Serves p x (withQueue q x) :=
  fun _ hk => ⟨hk, fun hh => ⟨hh, fun ⟨cur, gen0, unserved, data, rest⟩ =>
    ⟨cur, gen0, fun hcur => Nat.le_zero.mp (hdata.trans (unserved hcur).le), hdata.trans data, rest⟩⟩⟩

theorem dataFrames_control {q : List CarrierFrame} {f : CarrierFrame} (hf : f.isData = false) :
    ((q ++ [f]).filter CarrierFrame.isData).length = (q.filter CarrierFrame.isData).length := by simp [hf]

theorem serves_control {p : Profile} {x : Tunnel} {f : CarrierFrame} (hf : f.isData = false) :
    Serves p x (withQueue (x.egress ++ [f]) x) := serves_withQueue (dataFrames_control hf).le

/-- The next number of the current generation assigned to a frame (R37, R38). -/
theorem serves_curSpent {p : Profile} {x : Tunnel} {c : CurGen} (hcur : x.cur = some c) (hnum : c.lastSeq + 1 ≤ p.frameLimit) :
    Serves p x (curSpent c x) := by
  have hmap : curSpent c x = { x with cur := x.cur.map fun c => { c with lastSeq := c.lastSeq + 1 } } := by
    rw [hcur]
    rfl
  rw [hmap]
  refine serves_mapCur (fun _ => rfl) fun c0 hc0 hlimits => ⟨?_, hlimits.2⟩
  obtain rfl : c = c0 := Option.some.inj (hcur.symm.trans hc0)
  exact hnum

/-- A data frame joins a queue that holds fewer than its limit (R14, R15). -/
theorem serves_data {p : Profile} {x : Tunnel} {f : CarrierFrame} (hcur : x.cur ≠ none) (hroom : x.dataFrames < p.dataLimit) :
    Serves p x (withQueue (x.egress ++ [f]) x) := by
  refine fun _ hk => ⟨hk, fun hh => ⟨hh, fun ⟨cur, gen0, _, _, rest⟩ => ⟨cur, gen0, fun h => absurd h hcur, ?_, rest⟩⟩⟩
  have hone : ([f].filter CarrierFrame.isData).length ≤ 1 := List.length_filter_le _ _
  have happ : (withQueue (x.egress ++ [f]) x).dataFrames = x.dataFrames + ([f].filter CarrierFrame.isData).length := by
    simp [Tunnel.dataFrames, withQueue]
  omega

/-! ### The entry into Dormant (R141, R142) -/

theorem serves_enterDormant {p : Profile} {x : Tunnel} (hkey : x.keyState = .keyed ∨ x.keyState = .unkeyed)
    (hqueue : x.egress = []) (htimer : x.dormancyExpiry.isSome = true ∨ x.dormancyDue = true) (retained : Bool) :
    Serves p x (x.enterDormant retained) := by
  intro hp hk
  obtain ⟨henabled, hclosed, -⟩ := hk.2.2.2.2 htimer
  have hdata : x.dataFrames = 0 := by simp [Tunnel.dataFrames, hqueue]
  have untimed {c : Prop} (h : (none : Option Tick).isSome = true ∨ false = true) : c := by simp at h
  unfold Tunnel.enterDormant
  split
  next hlost =>
    have e := established_of_not_bare hk (by rw [hlost.1]; rfl)
    refine ⟨keyedOk_of_barren rfl ⟨rfl, rfl, rfl, rfl, rfl, rfl, fun _ => ⟨henabled, hclosed⟩, untimed⟩ ?_ ?_
      (fun _ => rfl), fun _ => ⟨healthOk_of_off (.inr (.inr rfl)) rfl, fun hl => withinLimits_of_dropped hp rfl hdata hl.2.1 rfl⟩⟩
    · exact ⟨fun _ => nofun, fun _ => e.secret⟩
    · exact ⟨fun _ => ⟨nofun, nofun⟩, fun _ => e.gen0⟩
  next =>
    obtain ⟨contexts, numbers, service, -⟩ := hk
    refine ⟨⟨contexts, numbers, service, fun _ => ⟨henabled, hclosed, ?_⟩, untimed⟩, fun _ =>
      ⟨healthOk_of_off (.inr (.inr rfl)) rfl, fun ⟨cur, gen0, unserved, data, _⟩ =>
        ⟨cur, gen0, unserved, data, limits_of_off hp rfl⟩⟩⟩
    rcases hkey with hkey | hkey
    · exact .inr hkey
    · exact .inl (by rw [show KeyState.bare _ = x.keyState.bare from rfl, hkey]; rfl)

theorem serves_headLeft {p : Profile} {x : Tunnel} {left : List CarrierFrame}
    (hdata : (left.filter CarrierFrame.isData).length ≤ x.dataFrames) (retained : Bool) :
    Serves p x (headLeft retained left x) := by
  have hqueue : Serves p x (withQueue left x) := serves_withQueue hdata
  unfold headLeft
  simp only []
  split
  next h => exact hqueue.trans (serves_enterDormant (x := withQueue left x) h.2.2 h.1 (.inr h.2.1) retained)
  next => exact hqueue

end Sys2Proof.Proofs
end

section

namespace Sys2Proof.Proofs

open Sys2Proof Sys2Proof.Machine

/-! ### An attempt (R36, R64) -/

/-- A tunnel ready for an attempt: in OFFERING for its next generation, with attempts left (R64, R65, R66). -/
structure Poised (x : Tunnel) : Prop extends Established x where
  offering : x.keyState = .offering x.nextTarget
  few : x.attempts ≤ 7
  holdoff : x.holdoff = none
  jitter : x.jitter = none
  awake : x.dormant = false

theorem keyedOk_held {x : Tunnel} (h : Poised x) (n : OfferNonce) :
    KeyedOk { x with attempts := x.attempts + 1, nonce := some n } := by
  have hkey := h.offering
  have hfew := h.few
  refine keyedOk_of_established (x := { x with attempts := x.attempts + 1, nonce := some n })
    (by simp [hkey, KeyState.bare]) ⟨h.secret, h.gen0, h.enabled, h.prev, h.grace, h.numbered, h.timer⟩ ?_ ?_ ?_ ?_ ?_ ?_ ?_ ?_
  · simp [hkey, KeyState.renewable]
  · simp [hkey, KeyState.isOffering]
  · simp [hkey, KeyState.isOffering]
  · exact Nat.succ_le_of_lt (Nat.lt_of_le_of_lt hfew (by decide))
  · simp [h.holdoff]
  · simp [h.jitter, hkey]
  · intro g hg
    rw [show (Tunnel.keyState _) = x.keyState from rfl, hkey] at hg
    exact (Option.some.inj hg).symm
  · simp [h.awake]

theorem keyedOk_exhausted {x : Tunnel} (h : Poised x) : KeyedOk (exhaustedTunnel x) :=
  keyedOk_of_barren rfl ⟨rfl, rfl, rfl, rfl, rfl, rfl, fun hd => absurd (h.awake.symm.trans hd) (by decide), h.timer⟩
    ⟨nofun, fun hk => absurd rfl hk⟩ ⟨nofun, fun hk => absurd rfl hk.1⟩ nofun

/-- What an attempt makes of a tunnel that is ready for it. -/
theorem serves_attempt {p : Profile} {x z y : Tunnel} (hz : InRange p → KeyedOk x → Poised z) (hhealth : x.HealthOk → z.HealthOk)
    (hlimits : x.WithinLimits p → z.WithinLimits p) (h : Attempted z y) : Serves p x y := by
  intro hp hk
  have hpoised := hz hp hk
  cases h with
  | unsent n => exact ⟨keyedOk_held hpoised n, fun hh => ⟨hhealth hh, hlimits⟩⟩
  | offered n g f hg hnum hcontrol =>
    refine ⟨?_, fun hh => ⟨hhealth hh, fun hl => ?_⟩⟩
    · obtain ⟨⟨secret, gen0, contexts⟩, rest⟩ := keyedOk_held hpoised n
      exact ⟨⟨secret, by rw [hg] at gen0; exact gen0, contexts⟩, rest⟩
    · obtain ⟨cur, -, unserved, data, rest⟩ := hlimits hl
      have hdata := dataFrames_control (q := z.egress) hcontrol
      refine ⟨cur, fun g' hg' => ?_, fun hcur => hdata.trans (unserved hcur), hdata.le.trans data, rest⟩
      obtain rfl := Option.some.inj hg'
      exact hnum
  | exhausted => exact ⟨keyedOk_exhausted hpoised, fun _ => ⟨healthOk_of_off (.inr (.inl rfl)) rfl, fun _ =>
      withinLimits_of_dropped hp rfl rfl nofun rfl⟩⟩

theorem unkeyed_contexts {x : Tunnel} (h : KeyedOk x) (hkey : x.keyState = .unkeyed) : x.secret.isSome = true ∧ x.gen0.isSome = true := by
  obtain ⟨⟨secret, gen0, -⟩, -⟩ := h
  exact ⟨secret.mpr (by simp [hkey]), gen0.mpr (by simp [hkey])⟩

theorem poised_of_unkeyed {x : Tunnel} (h : KeyedOk x) (hkey : x.keyState = .unkeyed) (henabled : x.cfg.enabled = true)
    (hawake : x.dormant = false) : Poised (keyingStart x) := by
  have b := barren_of_bare h (by rw [hkey]; rfl)
  obtain ⟨hsecret, hgen0⟩ := unkeyed_contexts h hkey
  exact {
    secret := hsecret, gen0 := hgen0, enabled := henabled, prev := fun _ => b.prev, grace := by simp [keyingStart, b.grace, b.prev]
    numbered := fun c hc => absurd (b.cur.symm.trans hc) nofun, timer := b.timer
    offering := by simp [keyingStart, Tunnel.nextTarget, b.cur], few := Nat.zero_le _, holdoff := rfl, jitter := b.jitter
    awake := hawake }

theorem serves_keyingStart {p : Profile} {x y : Tunnel} (hkey : x.keyState = .unkeyed) (henabled : x.cfg.enabled = true)
    (hawake : x.dormant = false) (h : Attempted (keyingStart x) y) : Serves p x y :=
  serves_attempt (fun _ hk => poised_of_unkeyed hk hkey henabled hawake) id id h

theorem not_bare_of_renewable {k : KeyState} (h : k.renewable = true) : k.bare = false := by
  revert h
  cases k <;> simp [KeyState.renewable, KeyState.bare]

theorem poised_of_renewable {x : Tunnel} {c : CurGen} (h : KeyedOk x) (hcur : x.cur = some c) (hkey : x.keyState.renewable = true)
    (hawake : x.dormant = false) : Poised (renewalStart c x) := by
  have e := established_of_not_bare h (not_bare_of_renewable hkey)
  exact {
    secret := e.secret, gen0 := e.gen0, enabled := e.enabled, prev := e.prev, grace := e.grace, numbered := e.numbered
    timer := e.timer, offering := by simp [renewalStart, Tunnel.nextTarget, hcur], few := Nat.zero_le _, holdoff := rfl
    jitter := rfl, awake := hawake }

theorem serves_renewalStart {p : Profile} {x y : Tunnel} {c : CurGen} (hcur : x.cur = some c) (hkey : x.keyState.renewable = true)
    (hawake : x.dormant = false) (h : Attempted (renewalStart c x) y) : Serves p x y :=
  serves_attempt (fun _ hk => poised_of_renewable hk hcur hkey hawake) id id h

/-- A further attempt of an exchange, within the retry limit (R67). -/
theorem serves_further {p : Profile} {x y : Tunnel} {g : BitVec 8} (hkey : x.keyState = .offering g)
    (hfew : x.attempts < 1 + p.retryLimit) (h : Attempted x y) : Serves p x y := by
  refine serves_attempt (fun hp hk => ?_) id id h
  have hretry : p.retryLimit ≤ 7 := by obtain ⟨-, -, -, -, h, -⟩ := hp; exact h
  have htarget := target_of_exchange hk (g := g) (by rw [hkey]; rfl)
  exact {
    established_of_not_bare hk (by rw [hkey]; rfl) with
    offering := by rw [hkey, htarget], few := by omega, holdoff := no_holdoff hk (by simp [hkey]) (by simp [hkey])
    jitter := undelayed_of_not_pending hk (by simp [hkey]), awake := awake_of_exchange hk (by rw [hkey]; rfl) (by simp [hkey]) }

/-! ### The other ends of an exchange (R67, R68) -/

/-- The entry of a tunnel whose exchange has failed (R67). -/
def exchangeFailed (e : Tick) (x : Tunnel) : Tunnel :=
  { x with nonce := none, attempts := 0, holdoff := some e, keyState := if x.cur = none then .unkeyed else .keyed }

theorem serves_exchangeFailed {p : Profile} {x : Tunnel} {g : BitVec 8} (hkey : x.keyState = .offering g) (e : Tick) :
    Serves p x (exchangeFailed e x) := by
  intro _ hk
  have est := established_of_not_bare hk (by rw [hkey]; rfl)
  have hawake := awake_of_exchange hk (by rw [hkey]; rfl) (by simp [hkey])
  have hjitter := undelayed_of_not_pending hk (by simp [hkey])
  refine ⟨?_, fun hh => ⟨hh, id⟩⟩
  cases hcur : x.cur with
  | none =>
    have hstate : (exchangeFailed e x).keyState = .unkeyed := if_pos hcur
    have hprev := est.prev hcur
    have hgrace : x.grace = none := by simpa [hprev] using est.grace
    refine keyedOk_of_barren (by rw [hstate]; rfl) ⟨hcur, hprev, rfl, rfl, hjitter, hgrace,
      fun hd => absurd (hawake.symm.trans hd) (by decide), est.timer⟩ ?_ ?_ fun _ => hstate
    · exact ⟨fun _ => by simp [hstate], fun _ => est.secret⟩
    · exact ⟨fun _ => by simp [hstate], fun _ => est.gen0⟩
  | some c =>
    have hstate : (exchangeFailed e x).keyState = .keyed := if_neg (by simp [hcur])
    have hoffering : (exchangeFailed e x).keyState.isOffering = false := by rw [hstate]; rfl
    refine keyedOk_of_established (by rw [hstate]; rfl)
      ⟨est.secret, est.gen0, est.enabled, est.prev, est.grace, est.numbered, est.timer⟩
      (fun _ => by simp [exchangeFailed, hcur]) ?_ ?_ (Nat.zero_le _) (fun _ => hstate) ?_ ?_
      fun hd => absurd (hawake.symm.trans hd) (by decide)
    · rw [hoffering]
      simp [exchangeFailed]
    · rw [hoffering]
      simp [exchangeFailed]
    · rw [hstate]
      simp [exchangeFailed, hjitter]
    · simp [hstate, KeyState.target]

/-- The entry of a tunnel whose ACCEPT has been taken (R68). -/
def accepted (g : BitVec 8) (x : Tunnel) : Tunnel := { x with nonce := none, attempts := 0, keyState := .deriv g }

theorem serves_accepted {p : Profile} {x : Tunnel} {g : BitVec 8} (hkey : x.keyState = .offering g) : Serves p x (accepted g x) := by
  intro _ hk
  have est := established_of_not_bare hk (by rw [hkey]; rfl)
  have hawake := awake_of_exchange hk (by rw [hkey]; rfl) (by simp [hkey])
  refine ⟨keyedOk_of_established rfl ⟨est.secret, est.gen0, est.enabled, est.prev, est.grace, est.numbered, est.timer⟩ nofun
    ⟨nofun, nofun⟩ ⟨fun h => absurd rfl h, nofun⟩ (Nat.zero_le _) ?_ ?_ ?_ fun hd => absurd (hawake.symm.trans hd) (by decide),
    fun hh => ⟨hh, id⟩⟩
  · simp [accepted, no_holdoff hk (by simp [hkey]) (by simp [hkey])]
  · simp [accepted, undelayed_of_not_pending hk (by simp [hkey])]
  · intro g' hg'
    obtain rfl := Option.some.inj hg'
    exact target_of_exchange hk (g := g) (by rw [hkey]; rfl)

/-! ### Keys made and discarded (R23, R57, R58, R78, R79) -/

theorem serves_bootstrapped {p : Profile} {x : Tunnel} (hkey : x.keyState = .bootstrap) (i : KdfInputs) :
    Serves p x (bootstrapped i x) := by
  intro _ hk
  have b := barren_of_bare hk (by rw [hkey]; rfl)
  obtain ⟨⟨secret, -⟩, -⟩ := hk
  refine ⟨keyedOk_of_barren rfl ⟨b.cur, b.prev, b.nonce, b.attempts, b.jitter, b.grace, b.sleep, b.timer⟩
    ⟨fun _ => nofun, fun _ => secret.mpr (by simp [hkey])⟩ ⟨fun _ => ⟨nofun, nofun⟩, fun _ => rfl⟩ fun _ => rfl, fun hh =>
    ⟨hh, fun ⟨cur, _, rest⟩ => ⟨cur, fun g hg => ?_, rest⟩⟩⟩
  obtain rfl := Option.some.inj hg
  exact (by decide : 0 < 4294967295)

/-- A tunnel whose generations, exchange and queue are gone, whose record is that of Off, and whose contexts go with its state. -/
theorem serves_dropped {p : Profile} {x y : Tunnel} (hbare : y.keyState.bare = true) (hcur : y.cur = none) (hprev : y.prev = none)
    (hnonce : y.nonce = none ∧ y.attempts = 0) (htimers : y.holdoff = none ∧ y.jitter = none ∧ y.grace = none)
    (hqueue : y.egress = []) (hrecord : y.health = y.health.toOff)
    (hrest : SleepOk x → TimerOk x → SleepOk y ∧ TimerOk y)
    (hsecret : KeyedOk x → (y.secret.isSome = true ↔ y.keyState ≠ .noSecret))
    (hgen0 : KeyedOk x → (y.gen0.isSome = true ↔ y.keyState ≠ .noSecret ∧ y.keyState ≠ .bootstrap))
    (hnum : x.WithinLimits p → ∀ g ∈ y.gen0, g.lastSeq < 4294967295) : Serves p x y := by
  intro hp hk
  obtain ⟨hsleep, htimer⟩ := hrest (fun hd => ⟨(hk.2.2.2.1 hd).1, (hk.2.2.2.1 hd).2.1⟩) hk.2.2.2.2
  exact ⟨keyedOk_of_barren hbare ⟨hcur, hprev, hnonce.1, hnonce.2, htimers.2.1, htimers.2.2, hsleep, htimer⟩ (hsecret hk)
    (hgen0 hk) (by simp [htimers.1]), fun _ => ⟨healthOk_of_off (.inr (.inl hcur)) hrecord, fun hl =>
    withinLimits_of_dropped hp hcur (by simp [Tunnel.dataFrames, hqueue]) (hnum hl) hrecord⟩⟩

theorem unkeyedFrom_bare (k : KeyState) : k.unkeyedFrom.bare = true := by cases k <;> rfl

theorem unkeyedFrom_noSecret (k : KeyState) : k.unkeyedFrom = .noSecret ↔ k = .noSecret := by
  cases k <;> simp [KeyState.unkeyedFrom]

theorem unkeyedFrom_eq_bootstrap (k : KeyState) : k.unkeyedFrom = .bootstrap ↔ k = .bootstrap := by
  cases k <;> simp [KeyState.unkeyedFrom]

theorem secret_unkeyedFrom {x : Tunnel} (h : KeyedOk x) : x.secret.isSome = true ↔ x.keyState.unkeyedFrom ≠ .noSecret := by
  rw [Ne, unkeyedFrom_noSecret]
  exact h.1.1

theorem gen0_unkeyedFrom {x : Tunnel} (h : KeyedOk x) :
    x.gen0.isSome = true ↔ x.keyState.unkeyedFrom ≠ .noSecret ∧ x.keyState.unkeyedFrom ≠ .bootstrap := by
  rw [Ne, Ne, unkeyedFrom_noSecret, unkeyedFrom_eq_bootstrap]
  exact h.1.2.1

theorem serves_disabled (p : Profile) (x : Tunnel) : Serves p x (withQueue [] (disabled x)) :=
  serves_dropped (unkeyedFrom_bare _) rfl rfl ⟨rfl, rfl⟩ ⟨rfl, rfl, rfl⟩ rfl rfl
    (fun _ _ => ⟨nofun, fun h => absurd h (by simp [withQueue, disabled])⟩) secret_unkeyedFrom gen0_unkeyedFrom
    fun hl => hl.2.1

/-- The entry of a tunnel whose generations have been erased, with an empty queue (R78). -/
def generationsErased (x : Tunnel) : Tunnel :=
  { x.dropGenerations with keyState := .unkeyed, egress := [], health := x.health.toOff }

/-- The entry of a tunnel in NO_SECRET or BOOTSTRAP after ERASE_KEYS of scope generations (R78, R82). -/
def bareErased (x : Tunnel) : Tunnel := { x with sample := 0, egress := [], health := x.health.toOff }

theorem serves_generationsErased {p : Profile} {x : Tunnel} (hkey : x.keyState ≠ .noSecret ∧ x.keyState ≠ .bootstrap) :
    Serves p x (generationsErased x) :=
  serves_dropped rfl rfl rfl ⟨rfl, rfl⟩ ⟨rfl, rfl, rfl⟩ rfl rfl (fun hs ht => ⟨hs, ht⟩)
    (fun hk => ⟨fun _ => nofun, fun _ => hk.1.1.mpr hkey.1⟩) (fun hk => ⟨fun _ => ⟨nofun, nofun⟩, fun _ => hk.1.2.1.mpr hkey⟩)
    fun hl => hl.2.1

theorem serves_bareErased {p : Profile} {x : Tunnel} (hkey : x.keyState = .noSecret ∨ x.keyState = .bootstrap) :
    Serves p x (bareErased x) := by
  refine .given fun hk => ?_
  have hbare : x.keyState.bare = true := by rcases hkey with h | h <;> rw [h] <;> rfl
  have hnot : x.keyState ≠ .unkeyed ∧ x.keyState ≠ .keyed := by rcases hkey with h | h <;> simp [h]
  have b := barren_of_bare hk hbare
  exact serves_dropped hbare b.cur b.prev ⟨b.nonce, b.attempts⟩ ⟨no_holdoff hk hnot.1 hnot.2, b.jitter, b.grace⟩ rfl rfl
    (fun hs ht => ⟨hs, ht⟩) (fun hk => hk.1.1) (fun hk => hk.1.2.1) fun hl => hl.2.1

/-- The entry of a tunnel without keys, the rest of it being `x` (R79). -/
def secretErased (x : Tunnel) : Tunnel := { x with gen0 := none, secret := none, keyState := .noSecret }

theorem serves_secretErased {p : Profile} {x : Tunnel} (hcur : x.cur = none) (hprev : x.prev = none)
    (hnonce : x.nonce = none ∧ x.attempts = 0) (htimers : x.holdoff = none ∧ x.jitter = none ∧ x.grace = none)
    (hqueue : x.egress = []) (hrecord : x.health = x.health.toOff) : Serves p x (secretErased x) :=
  serves_dropped rfl hcur hprev hnonce htimers hqueue hrecord (fun hs ht => ⟨hs, ht⟩) (fun _ => ⟨nofun, fun h => absurd rfl h⟩)
    (fun _ => ⟨nofun, fun h => absurd rfl h.1⟩) fun _ => nofun

/-- The entry of a tunnel into which a master secret has just been installed (R57). -/
def installed (m : MasterSecret) (x : Tunnel) : Tunnel :=
  { x.dropGenerations with gen0 := none, secret := some m, keyState := .bootstrap, egress := [], health := x.health.toOff }

theorem serves_installed (p : Profile) (x : Tunnel) (m : MasterSecret) : Serves p x (installed m x) :=
  serves_dropped rfl rfl rfl ⟨rfl, rfl⟩ ⟨rfl, rfl, rfl⟩ rfl rfl (fun hs ht => ⟨hs, ht⟩) (fun _ => ⟨fun _ => nofun, fun _ => rfl⟩)
    (fun _ => ⟨nofun, fun h => absurd rfl h.2⟩) fun _ => nofun

/-! ### PENDING and HELD (R73, R88, R89) -/

theorem serves_pendingUntil {p : Profile} {x : Tunnel} (hkey : x.keyState = .keyed) (hholdoff : x.holdoff = none)
    (hawake : x.dormant = false) (e : Tick) : Serves p x (pendingUntil e x) := by
  intro _ hk
  have est := established_of_not_bare hk (by rw [hkey]; rfl)
  obtain ⟨hnonce, hattempts⟩ := quiet_of_not_offering hk (by rw [hkey]; rfl)
  have hcur := current_of_renewable hk (by rw [hkey]; rfl)
  refine ⟨keyedOk_of_established rfl ⟨est.secret, est.gen0, est.enabled, est.prev, est.grace, est.numbered, est.timer⟩
    (fun _ => hcur) ?_ ?_ ?_ ?_ ⟨fun _ => rfl, fun _ => rfl⟩ nofun fun hd => absurd (hawake.symm.trans hd) (by decide), fun hh => ⟨hh, id⟩⟩
  · simp [pendingUntil, hnonce, KeyState.isOffering]
  · simp [pendingUntil, hattempts, KeyState.isOffering]
  · simp [pendingUntil, hattempts]
  · simp [pendingUntil, hholdoff]

/-- The entry of a tunnel in HELD. -/
def held (x : Tunnel) : Tunnel := { x with jitter := none, keyState := .held }

theorem serves_held {p : Profile} {x : Tunnel} (hkey : x.keyState.renewable = true) (hholdoff : x.holdoff = none)
    (hawake : x.dormant = false) : Serves p x (held x) := by
  intro _ hk
  have est := established_of_not_bare hk (not_bare_of_renewable hkey)
  have hoffering : x.keyState.isOffering = false := by
    revert hkey
    cases x.keyState <;> simp [KeyState.renewable, KeyState.isOffering]
  obtain ⟨hnonce, hattempts⟩ := quiet_of_not_offering hk hoffering
  have hcur := current_of_renewable hk hkey
  refine ⟨keyedOk_of_established rfl ⟨est.secret, est.gen0, est.enabled, est.prev, est.grace, est.numbered, est.timer⟩
    (fun _ => hcur) ?_ ?_ ?_ ?_ ⟨nofun, nofun⟩ nofun fun hd => absurd (hawake.symm.trans hd) (by decide), fun hh => ⟨hh, id⟩⟩
  · simp [held, hnonce, KeyState.isOffering]
  · simp [held, hattempts, KeyState.isOffering]
  · simp [held, hattempts]
  · simp [held, hholdoff]

end Sys2Proof.Proofs
end

section

namespace Sys2Proof.Proofs

open Sys2Proof Sys2Proof.Machine

/-! ### The health record of a tunnel in service (R111 to R124, R127) -/

/-- The limits of the profile on a health record (R127). -/
abbrev HealthLimits (p : Profile) (k : Health) : Prop :=
  k.seeds.length < p.seedCount ∧ (k.state = .suspect → k.suspect < p.suspectCount) ∧ k.miss ≤ p.missLimit
    ∧ (k.state ≠ .faultedSilent → k.miss < p.missLimit)

theorem counts_of_inRange {p : Profile} (h : InRange p) : 1 ≤ p.seedCount ∧ 1 ≤ p.missLimit := by
  obtain ⟨-, -, -, -, -, -, -, -, -, -, -, -, -, -, -, hmiss, hseed, -⟩ := h
  exact ⟨hseed.1, hmiss.1⟩

/-- A change of the record of a tunnel outside Off. -/
theorem serves_record {p : Profile} {x : Tunnel} {k : Health} (hon : x.health.state ≠ .off)
    (hhealth : Lively x → Lively (withHealth k x))
    (hlimits : InRange p → Lively x → HealthLimits p x.health → HealthLimits p k) : Serves p x (withHealth k x) :=
  fun hp hk => ⟨hk, fun hh => ⟨healthOk_of_lively (hhealth (lively_of_on hh hon)),
    fun ⟨cur, gen0, unserved, data, hl⟩ => ⟨cur, gen0, unserved, data, hlimits hp (lively_of_on hh hon) hl⟩⟩⟩

theorem lively_seeding {x : Tunnel} (l : Lively x) : Lively (seeded x) :=
  ⟨l.served, nofun, l.expiry, fun _ => ⟨nofun, rfl⟩, fun h => absurd rfl h, fun _ => rfl, fun _ => ⟨rfl, rfl⟩⟩

theorem limits_seeding {p : Profile} (hp : InRange p) (k : Health) : HealthLimits p k.toSeeding := by
  obtain ⟨hseed, hmiss⟩ := counts_of_inRange hp
  exact ⟨hseed, nofun, Nat.zero_le _, fun _ => hmiss⟩

theorem serves_seeded {p : Profile} {x : Tunnel} (hon : x.health.state ≠ .off) : Serves p x (seeded x) :=
  serves_record hon lively_seeding fun hp _ _ => limits_seeding hp _

theorem serves_probeArmed {p : Profile} {x : Tunnel} (hon : x.health.state ≠ .off) (e : Tick) : Serves p x (probeArmed e x) :=
  serves_record hon (fun l => ⟨l.served, l.on, rfl, l.closed, l.seeds, l.suspect, l.settle⟩) fun _ _ => id

theorem serves_probeRestarted (p : Profile) (x : Tunnel) (e : Tick) : Serves p x (probeRestarted e x) := by
  unfold probeRestarted
  split
  next => exact .refl p x
  next hon => exact serves_probeArmed hon e

theorem serves_freshProbe {p : Profile} {x : Tunnel} (hon : x.health.state ≠ .off) (now : BitVec 32) : Serves p x (freshProbe now x) :=
  serves_record hon (fun l => ⟨l.served, l.on, l.expiry, l.closed, l.seeds, l.suspect, l.settle⟩) fun _ _ => id

theorem serves_probeRecorded {p : Profile} {x : Tunnel} (hon : x.health.state ≠ .off) (number : BitVec 8) (departure : BitVec 32) :
    Serves p x (probeRecorded number departure x) :=
  serves_record hon (fun l => ⟨l.served, l.on, l.expiry, l.closed, l.seeds, l.suspect, l.settle⟩) fun _ _ => id

/-! ### Misses (R116) -/

theorem serves_missCounted {p : Profile} {x : Tunnel} (hon : x.health.state ≠ .off) (hopen : x.shop ≠ .closed)
    (hfew : x.health.miss + 1 < p.missLimit) : Serves p x (missCounted x) :=
  serves_record hon (fun l => ⟨l.served, l.on, l.expiry, fun h => absurd h hopen, l.seeds, l.suspect, l.settle⟩)
    fun _ _ ⟨seeds, suspect, _, _⟩ => ⟨seeds, suspect, hfew.le, fun _ => hfew⟩

theorem serves_silenced {p : Profile} {x : Tunnel} (hon : x.health.state ≠ .off) (hopen : x.shop ≠ .closed)
    (hsound : x.health.state ≠ .faultedSilent) : Serves p x (silenced x) :=
  serves_record hon (fun l => ⟨l.served, nofun, l.expiry, fun h => absurd h hopen, fun _ => rfl, fun _ => rfl, fun _ => ⟨rfl, rfl⟩⟩)
    fun hp _ ⟨_, _, _, miss⟩ => ⟨(counts_of_inRange hp).1, nofun, miss hsound, fun h => absurd rfl h⟩

/-! ### Samples (R115 to R122) -/

/-- The record of a tunnel whose outstanding probe has been answered (R115). -/
def answered (k : Health) : Health := { k with outstanding := none, miss := 0 }

theorem serves_answered {p : Profile} {x : Tunnel} (hon : x.health.state ≠ .off) : Serves p x (withHealth (answered x.health) x) :=
  serves_record hon (fun l => ⟨l.served, l.on, l.expiry, fun h => ⟨(l.closed h).1, rfl⟩, l.seeds, l.suspect, l.settle⟩)
    fun hp _ ⟨seeds, suspect, _, _⟩ => ⟨seeds, suspect, Nat.zero_le _, fun _ => (counts_of_inRange hp).2⟩

theorem serves_seedKept {p : Profile} {x : Tunnel} {l : List Nat} (hstate : x.health.state = .seeding)
    (hfew : l.length < p.seedCount) : Serves p x (withHealth { x.health with seeds := l } x) :=
  serves_record (by simp [hstate]) (fun l => ⟨l.served, l.on, l.expiry, l.closed, fun h => absurd hstate h, l.suspect, l.settle⟩)
    fun _ _ ⟨_, suspect, miss, missOpen⟩ => ⟨hfew, suspect, miss, missOpen⟩

/-- A tunnel that leaves Seeding for a state without fields of its own (R119). -/
theorem serves_seedEnded {p : Profile} {x : Tunnel} {k : Health} (hstate : x.health.state = .seeding)
    (hnext : k.state = .normal ∨ k.state = .unseeded) (hseeds : k.seeds = []) (hexpiry : k.expiry = x.health.expiry)
    (hmiss : k.miss = x.health.miss) (hsuspect : k.suspect = x.health.suspect)
    (hsettle : k.settle = x.health.settle ∧ k.snapshot = x.health.snapshot) : Serves p x (withHealth k x) := by
  have hstates : k.state ≠ .off ∧ k.state ≠ .faultedSilent ∧ k.state ≠ .suspect := by
    rcases hnext with h | h <;> simp [h]
  obtain ⟨hon, hsound, hcalm⟩ := hstates
  refine serves_record (by simp [hstate]) (fun l => ⟨l.served, hon, ?_, fun h => ⟨hsound, ?_⟩, fun _ => hseeds, fun _ => ?_, fun _ => ?_⟩)
    fun hp l ⟨_, _, _, missOpen⟩ => ?_
  · change k.expiry.isSome = true
    rw [hexpiry]
    exact l.expiry
  · exact hmiss.trans (l.closed h).2
  · exact hsuspect.trans (l.suspect (by simp [hstate]))
  · obtain ⟨hsettled, hsnapshot⟩ := l.settle (by simp [hstate])
    exact ⟨hsettle.1.trans hsettled, hsettle.2.trans hsnapshot⟩
  · have hfew := missOpen (by simp [hstate])
    rw [HealthLimits, hseeds, hmiss]
    exact ⟨(counts_of_inRange hp).1, fun h => absurd h hcalm, hfew.le, fun _ => hfew⟩

theorem serves_sampled {p q : Profile} {x : Tunnel} {n : Nat} {term : Int} (hon : x.health.state ≠ .off) :
    Serves p x (withHealth (filterHealth q n term x.health) x) :=
  serves_record hon (fun l => ⟨l.served, l.on, l.expiry, l.closed, l.seeds, l.suspect, l.settle⟩) fun _ _ => id

theorem serves_leftNormal {p : Profile} {x : Tunnel} (hstate : x.health.state = .normal ∨ x.health.state = .suspect) :
    Serves p x (withHealth (leftNormal x.health) x) := by
  have hstates : x.health.state ≠ .off ∧ x.health.state ≠ .seeding ∧ x.health.state ≠ .faultedDelay
      ∧ x.health.state ≠ .faultedSilent := by rcases hstate with h | h <;> simp [h]
  obtain ⟨hon, hgrown, hprompt, hsound⟩ := hstates
  exact serves_record hon
    (fun l => ⟨l.served, nofun, l.expiry, fun h => ⟨nofun, (l.closed h).2⟩, fun _ => l.seeds hgrown, fun _ => rfl, fun _ => l.settle hprompt⟩)
    fun _ _ ⟨seeds, _, miss, missOpen⟩ => ⟨seeds, nofun, miss, fun _ => missOpen hsound⟩

theorem serves_rebased {p q : Profile} {x : Tunnel} {n : Nat} (hon : x.health.state ≠ .off) :
    Serves p x (withHealth (rebased q n x.health) x) :=
  serves_record hon (fun l => ⟨l.served, l.on, l.expiry, l.closed, l.seeds, l.suspect, l.settle⟩) fun _ _ => id

theorem serves_suspected {p : Profile} {x : Tunnel} {n : Nat} (hstate : x.health.state = .normal ∨ x.health.state = .suspect)
    (hfew : n < p.suspectCount) : Serves p x (withHealth { x.health with state := .suspect, suspect := n } x) := by
  have hstates : x.health.state ≠ .off ∧ x.health.state ≠ .seeding ∧ x.health.state ≠ .faultedDelay
      ∧ x.health.state ≠ .faultedSilent := by rcases hstate with h | h <;> simp [h]
  obtain ⟨hon, hgrown, hprompt, hsound⟩ := hstates
  exact serves_record hon
    (fun l => ⟨l.served, nofun, l.expiry, fun h => ⟨nofun, (l.closed h).2⟩, fun _ => l.seeds hgrown, fun h => absurd rfl h,
      fun _ => l.settle hprompt⟩)
    fun _ _ ⟨seeds, _, miss, missOpen⟩ => ⟨seeds, fun _ => hfew, miss, fun _ => missOpen hsound⟩

/-- The record of a tunnel that has just become Faulted(Delay) (R121). -/
def delayed (k : Health) : Health := { k with state := .faultedDelay, suspect := 0, settle := 0, snapshot := none }

theorem serves_delayed {p : Profile} {x : Tunnel} (hstate : x.health.state = .normal ∨ x.health.state = .suspect) :
    Serves p x (withHealth (delayed x.health) x) := by
  have hstates : x.health.state ≠ .off ∧ x.health.state ≠ .seeding ∧ x.health.state ≠ .faultedSilent := by
    rcases hstate with h | h <;> simp [h]
  obtain ⟨hon, hgrown, hsound⟩ := hstates
  exact serves_record hon
    (fun l => ⟨l.served, nofun, l.expiry, fun h => ⟨nofun, (l.closed h).2⟩, fun _ => l.seeds hgrown, fun _ => rfl, fun _ => ⟨rfl, rfl⟩⟩)
    fun _ _ ⟨seeds, _, miss, missOpen⟩ => ⟨seeds, nofun, miss, fun _ => missOpen hsound⟩

theorem serves_settled {p q : Profile} {x : Tunnel} (hstate : x.health.state = .faultedDelay) :
    Serves p x (withHealth (settleHealth q x.health) x) :=
  serves_record (by simp [hstate]) (fun l => ⟨l.served, l.on, l.expiry, l.closed, l.seeds, l.suspect, fun h => absurd hstate h⟩)
    fun _ _ => id

end Sys2Proof.Proofs
end

section

namespace Sys2Proof.Proofs

open Sys2Proof Sys2Proof.Machine

/-! ### The switch (R75, R111, R114) -/

theorem nextGeneration_ne_zero (g : BitVec 8) : nextGeneration g ≠ 0 := by
  unfold nextGeneration
  split
  · decide
  · intro h
    have hne : g ≠ 255 := ‹_›
    exact hne (by bv_omega)

theorem nextTarget_ne_zero (x : Tunnel) : x.nextTarget ≠ 0 := by
  unfold Tunnel.nextTarget
  split
  · exact nextGeneration_ne_zero _
  · decide

theorem keyedOk_switchedTo {x : Tunnel} {new : CurGen} (h : KeyedOk x) (hkey : x.keyState = .deriv new.number) (grace : Tick) :
    KeyedOk (switchedTo new grace x) := by
  have est := established_of_not_bare h (by rw [hkey]; rfl)
  have hawake := awake_of_exchange h (by rw [hkey]; rfl) (by simp [hkey])
  have htarget := target_of_exchange h (g := new.number) (by rw [hkey]; rfl)
  obtain ⟨hnonce, hattempts⟩ := quiet_of_not_offering h (by rw [hkey]; rfl)
  refine keyedOk_of_established rfl ⟨est.secret, est.gen0, est.enabled, nofun, ?_, ?_, est.timer⟩ (fun _ => rfl) ?_ ?_ ?_ (fun _ => rfl)
    ?_ nofun fun hd => absurd (hawake.symm.trans hd) (by decide)
  · cases hcur : x.cur <;> simp [switchedTo, hcur]
  · intro c hc
    obtain rfl := Option.some.inj hc
    refine ⟨fun hzero => nextTarget_ne_zero x (htarget ▸ hzero), fun q hq => ?_⟩
    obtain ⟨c0, hc0, rfl⟩ := Option.map_eq_some_iff.mp hq
    refine ⟨(est.numbered c0 hc0).1, ?_⟩
    rw [htarget, Tunnel.nextTarget, hc0]
  · simp [switchedTo, hnonce, KeyState.isOffering]
  · simp [switchedTo, hattempts, KeyState.isOffering]
  · simp [switchedTo, hattempts]
  · simp [switchedTo, undelayed_of_not_pending h (by simp [hkey])]

/-- The record of a switched tunnel with its probe schedule restarted: as it was, or in Seeding (R111, R114). -/
theorem serves_switched {p : Profile} {x : Tunnel} {new : CurGen} (hkey : x.keyState = .deriv new.number)
    (hfresh : new.lastSeq = 0 ∧ new.age = 0) (grace expiry : Tick) : Serves p x (probeArmed expiry (switchedTo new grace x)) := by
  intro hp hk
  have est := established_of_not_bare hk (by rw [hkey]; rfl)
  have hawake := awake_of_exchange hk (by rw [hkey]; rfl) (by simp [hkey])
  have hcurrent : ∀ c ∈ some new, c.lastSeq ≤ p.frameLimit ∧ c.age ≤ 65535 := fun c hc => by
    obtain rfl := Option.some.inj hc
    rw [hfresh.1, hfresh.2]
    exact ⟨Nat.zero_le _, Nat.zero_le _⟩
  refine ⟨keyedOk_switchedTo hk hkey grace, fun hh => ?_⟩
  have hserved : x.cfg.enabled = true ∧ some new ≠ none ∧ x.dormant = false := ⟨est.enabled, nofun, hawake⟩
  cases hcur : x.cur with
  | none =>
    have hrecord : (switchedTo new grace x).health = x.health.toSeeding := if_pos hcur
    have hmade : probeArmed expiry (switchedTo new grace x)
        = withHealth { x.health.toSeeding with expiry := some expiry } (switchedTo new grace x) := by
      rw [probeArmed, hrecord, withHealth]
    rw [hmade]
    exact ⟨healthOk_of_lively ⟨hserved, nofun, rfl, fun _ => ⟨nofun, rfl⟩, fun h => absurd rfl h, fun _ => rfl, fun _ => ⟨rfl, rfl⟩⟩,
      fun ⟨_, gen0, _, data, _⟩ => ⟨hcurrent, gen0, nofun, data, limits_seeding hp x.health⟩⟩
  | some c =>
    have hrecord : (switchedTo new grace x).health = x.health := if_neg (by simp [hcur])
    have hmade : probeArmed expiry (switchedTo new grace x)
        = withHealth { x.health with expiry := some expiry } (switchedTo new grace x) := by
      rw [probeArmed, hrecord, withHealth]
    have l := lively_of_served hh est.enabled (by simp [hcur]) hawake
    rw [hmade]
    exact ⟨healthOk_of_lively ⟨hserved, l.on, rfl, l.closed, l.seeds, l.suspect, l.settle⟩,
      fun ⟨_, gen0, _, data, hl⟩ => ⟨hcurrent, gen0, nofun, data, hl⟩⟩

theorem switched_on {p : Profile} {x : Tunnel} {new : CurGen} (hk : KeyedOk x) (hh : x.HealthOk) (hp : InRange p)
    (hkey : x.keyState = .deriv new.number) (hfresh : new.lastSeq = 0 ∧ new.age = 0) (grace expiry : Tick) :
    (probeArmed expiry (switchedTo new grace x)).health.state ≠ .off := by
  have est := established_of_not_bare hk (by rw [hkey]; rfl)
  have hawake := awake_of_exchange hk (by rw [hkey]; rfl) (by simp [hkey])
  exact (lively_of_served ((serves_switched hkey hfresh grace expiry hp hk).2 hh).1 est.enabled (by simp [probeArmed, switchedTo]) hawake).on

theorem serves_switchProbed {p : Profile} {x : Tunnel} {new : CurGen} {f : CarrierFrame} (hkey : x.keyState = .deriv new.number)
    (hfresh : new.lastSeq = 0 ∧ new.age = 0) (hf : f.isData = false) (grace expiry : Tick) (departure : BitVec 32) :
    Serves p x (withQueue (x.egress ++ [f]) (switchProbed new departure expiry (switchedTo new grace x))) := by
  intro hp hk
  have hlimit : new.lastSeq + 1 ≤ p.frameLimit := by
    obtain ⟨h, -⟩ := hp
    omega
  have hswitched := serves_switched (p := p) hkey hfresh grace expiry
  have hspent := hswitched.trans (serves_curSpent (x := probeArmed expiry (switchedTo new grace x)) rfl hlimit)
  have hqueued := hspent.trans (serves_control hf)
  refine ⟨(hqueued hp hk).1, fun hh => ?_⟩
  have hon := switched_on hk hh hp hkey hfresh grace expiry
  have hrecorded := hqueued.trans (serves_probeRecorded (x := withQueue (x.egress ++ [f])
    (curSpent new (probeArmed expiry (switchedTo new grace x)))) hon ((switchedTo new grace x).health.probe + 1) departure)
  exact (hrecorded hp hk).2 hh

/-! ### The wake (R145) -/

theorem keyedOk_awake {x : Tunnel} (h : KeyedOk x) : KeyedOk (awake x) := by
  obtain ⟨contexts, numbers, service, sleep, timer⟩ := h
  refine ⟨contexts, numbers, service, nofun, fun ht => ?_⟩
  obtain ⟨henabled, hclosed, -⟩ := timer ht
  exact ⟨henabled, hclosed, rfl⟩

theorem serves_wokenKeyed {p : Profile} {x : Tunnel} (hdormant : x.dormant = true) (hcur : x.cur ≠ none) (now : Tick) :
    Serves p x (wokenKeyed now x) := by
  intro hp hk
  obtain ⟨henabled, -, -⟩ := hk.2.2.2.1 hdormant
  exact ⟨keyedOk_awake (x := x) hk, fun _ => ⟨healthOk_of_lively ⟨⟨henabled, hcur, rfl⟩, nofun, rfl, fun _ => ⟨nofun, rfl⟩, fun h => absurd rfl h,
    fun _ => rfl, fun _ => ⟨rfl, rfl⟩⟩, fun ⟨cur, gen0, unserved, data, _⟩ => ⟨cur, gen0, unserved, data, limits_seeding hp x.health⟩⟩⟩

theorem serves_awake {p : Profile} {x : Tunnel} (hcur : x.cur = none) : Serves p x (awake x) :=
  fun _ hk => ⟨keyedOk_awake hk, fun hh => ⟨healthOk_of_off (.inr (.inl hcur)) (off_of_unserved (x := x) hh (.inr (.inl hcur))), id⟩⟩

theorem serves_wokenTimer {p : Profile} {x : Tunnel} (henabled : x.cfg.enabled = true) (hawake : x.dormant = false) (e : Tick) :
    Serves p x (wokenTimer e x) := by
  unfold wokenTimer
  split
  next hclosed => exact serves_restArmed henabled hclosed hawake
  next => exact .refl p x

/-! ### A change of shop state (R112, R123, R124, R139) -/

theorem keyedOk_opened {x : Tunnel} (h : KeyedOk x) (hawake : x.dormant = false) (new : ShopState) :
    KeyedOk (restCleared (shopped new x)) := by
  obtain ⟨contexts, numbers, service, -, -⟩ := h
  exact ⟨contexts, numbers, service, fun hd => absurd (hawake.symm.trans hd) (by decide), by simp [restCleared]⟩

theorem serves_opened {p : Profile} {x : Tunnel} {new : ShopState} (hnew : new ≠ .closed) (hawake : x.dormant = false) :
    Serves p x (restCleared (shopped new x)) :=
  fun _ hk => ⟨keyedOk_opened hk hawake new, fun ⟨served, off, expiry, _, rest⟩ => ⟨⟨served, off, expiry, fun h => absurd h hnew, rest⟩, id⟩⟩

theorem awake_of_open {x : Tunnel} (h : KeyedOk x) (hopen : x.shop ≠ .closed) : x.dormant = false := by
  obtain ⟨-, -, -, sleep, -⟩ := h
  by_contra hd
  exact hopen (sleep (by simpa using hd)).2.1

theorem keyedOk_shopClosed {x : Tunnel} (h : KeyedOk x) (hopen : x.shop ≠ .closed) : KeyedOk (shopped .closed x) := by
  have hawake := awake_of_open h hopen
  obtain ⟨contexts, numbers, service, -, timer⟩ := h
  exact ⟨contexts, numbers, service, fun hd => absurd (hawake.symm.trans hd) (by decide), fun ht => absurd (timer ht).2.1 hopen⟩

/-- The change of a tunnel to Closed in Off (R139). -/
theorem serves_closed_off {p : Profile} {x : Tunnel} (hopen : x.shop ≠ .closed) (hoff : x.health.state = .off) :
    Serves p x (shopped .closed x) :=
  fun _ hk => ⟨keyedOk_shopClosed hk hopen, fun hh => ⟨healthOk_of_off (hh.1.mpr hoff) (hh.2.1 hoff), id⟩⟩

/-- The change of a tunnel to Closed outside Off, with the probe schedule restarted and the misses forgotten (R112, R124). -/
theorem serves_closed_on {p : Profile} {x : Tunnel} {k : Health} (hopen : x.shop ≠ .closed) (hon : x.health.state ≠ .off)
    (hk : Lively x → Lively (withHealth k (shopped .closed x)))
    (hlimits : InRange p → HealthLimits p x.health → HealthLimits p k) : Serves p x (withHealth k (shopped .closed x)) :=
  fun hp hx => ⟨keyedOk_shopClosed (x := x) hx hopen, fun hh => ⟨healthOk_of_lively (hk (lively_of_on hh hon)),
    fun ⟨cur, gen0, unserved, data, hl⟩ => ⟨cur, gen0, unserved, data, hlimits hp hl⟩⟩⟩

theorem serves_closed_sound {p : Profile} {x : Tunnel} (hopen : x.shop ≠ .closed) (hon : x.health.state ≠ .off)
    (hsound : x.health.state ≠ .faultedSilent) (e : Tick) : Serves p x (missCleared (probeArmed e (shopped .closed x))) :=
  serves_closed_on hopen hon (fun l => ⟨l.served, l.on, rfl, fun _ => ⟨hsound, rfl⟩, l.seeds, l.suspect, l.settle⟩)
    fun hp ⟨seeds, suspect, _, _⟩ => ⟨seeds, suspect, Nat.zero_le _, fun _ => (counts_of_inRange hp).2⟩

theorem serves_closed_silent {p : Profile} {x : Tunnel} (hopen : x.shop ≠ .closed) (hon : x.health.state ≠ .off) (e : Tick) :
    Serves p x (seeded (probeArmed e (shopped .closed x))) :=
  serves_closed_on hopen hon
    (fun l => ⟨l.served, nofun, rfl, fun _ => ⟨nofun, rfl⟩, fun h => absurd rfl h, fun _ => rfl, fun _ => ⟨rfl, rfl⟩⟩)
    fun hp _ => limits_seeding hp _

theorem serves_armedIfEnabled {p : Profile} {x : Tunnel} (hclosed : x.shop = .closed) (hawake : x.dormant = false) (e : Tick) :
    Serves p x (armedIfEnabled e x) := by
  unfold armedIfEnabled
  split
  next henabled => exact serves_restArmed henabled hclosed hawake
  next => exact .refl p x

/-- What is no attempt's matter is left as it was by one. -/
theorem Attempted.restCleared {z y : Tunnel} (h : Attempted z y) : Attempted (restCleared z) (restCleared y) := by
  cases h with
  | unsent n => exact .unsent n
  | offered n g f hg hnum hcontrol => exact .offered n g f hg hnum hcontrol
  | exhausted => exact .exhausted

/-! ### The entry written by management (R20, R21, R22) -/

/-- The entry of a tunnel that has just been enabled (R22). -/
def nowEnabled (x : Tunnel) : Tunnel := { x with cfg := { x.cfg with enabled := true } }

theorem bare_of_disabled {x : Tunnel} (h : KeyedOk x) (hdisabled : x.cfg.enabled = false) : x.keyState.bare = true := by
  by_contra hbare
  have := h.2.2.1 (by simpa using hbare)
  simp [hdisabled] at this

theorem awake_of_disabled {x : Tunnel} (h : KeyedOk x) (hdisabled : x.cfg.enabled = false) : x.dormant = false := by
  by_contra hd
  have := (h.2.2.2.1 (by simpa using hd)).1
  simp [hdisabled] at this

theorem serves_nowEnabled {p : Profile} {x : Tunnel} (hdisabled : x.cfg.enabled = false) : Serves p x (nowEnabled x) := by
  intro _ hk
  have hawake := awake_of_disabled hk hdisabled
  have hcur := (barren_of_bare hk (bare_of_disabled hk hdisabled)).cur
  obtain ⟨contexts, numbers, -, -, timer⟩ := hk
  refine ⟨⟨contexts, numbers, fun _ => rfl, fun hd => absurd (hawake.symm.trans hd) (by decide), fun ht => ?_⟩, fun hh =>
    ⟨healthOk_of_off (.inr (.inl hcur)) (off_of_unserved (x := x) hh (.inl hdisabled)), id⟩⟩
  have := (timer ht).1
  simp [hdisabled] at this

theorem serves_levelTwo (p : Profile) (x : Tunnel) (now : Tick) (profiles : Vector Profile 16) :
    Serves p x (x.levelTwo now profiles) := by
  refine serves_dropped (unkeyedFrom_bare _) rfl rfl ⟨rfl, rfl⟩ ⟨rfl, rfl, rfl⟩ rfl rfl (fun _ _ => ⟨nofun, fun ht => ?_⟩)
    secret_unkeyedFrom gen0_unkeyedFrom fun hl => hl.2.1
  have hrun : x.cfg.enabled = true ∧ x.shop = .closed := by
    by_contra hno
    simp [Tunnel.levelTwo, hno] at ht
  exact ⟨hrun.1, hrun.2, rfl⟩

/-- A disabled tunnel is within the limits of any profile (R21, R29). -/
theorem withinLimits_of_disabled {p q : Profile} {x : Tunnel} (hq : InRange q) (hk : KeyedOk x) (hh : x.HealthOk)
    (hdisabled : x.cfg.enabled = false) (hl : x.WithinLimits p) : x.WithinLimits q := by
  have hcur := (barren_of_bare hk (bare_of_disabled hk hdisabled)).cur
  exact withinLimits_of_dropped hq hcur (hl.2.2.1 hcur) hl.2.1 (off_of_unserved hh (.inl hdisabled))

end Sys2Proof.Proofs
end

section

namespace Sys2Proof.Proofs

open Sys2Proof Sys2Proof.Machine

/-! ### What keeps every tunnel in accord with its keying, its health and its limits -/

/-- A change keeps every tunnel in accord with its keying state; with that its health in accord; and with both its limits. -/
def Service (s r : State) : Prop :=
  s.KeyingOk → r.KeyingOk ∧ (s.HealthOk → r.HealthOk ∧ (s.LimitsOk → r.LimitsOk))

theorem Service.refl (s : State) : Service s s := fun hk => ⟨hk, fun hh => ⟨hh, id⟩⟩

theorem Service.trans {s r q : State} (h : Service s r) (h' : Service r q) : Service s q := by
  intro hk
  obtain ⟨hkr, hr⟩ := h hk
  obtain ⟨hkq, hq⟩ := h' hkr
  refine ⟨hkq, fun hh => ?_⟩
  obtain ⟨hhr, hlr⟩ := hr hh
  obtain ⟨hhq, hlq⟩ := hq hhr
  exact ⟨hhq, hlq ∘ hlr⟩

theorem Service.ite {s a b : State} {c : Prop} [Decidable c] (h : c → Service s a) (h' : ¬ c → Service s b) :
    Service s (if c then a else b) := by
  split
  · exact h ‹_›
  · exact h' ‹_›

/-- A change that is in question only where the keying is in accord. -/
theorem Service.given {s r : State} (h : (∀ t, KeyedOk (s.tun t)) → Service s r) : Service s r := fun hk => h hk.2 hk

/-- A change of tunnel entries, each of which serves. -/
theorem service_of_tunnels {s r : State} (hprofiles : r.profiles = s.profiles)
    (h : ∀ t, (r.tun t).cfg.profile = (s.tun t).cfg.profile ∧ Serves (s.prof t) (s.tun t) (r.tun t)) : Service s r := by
  have hprof (t : TunnelId) : r.prof t = s.prof t := by simp only [State.prof, hprofiles, (h t).1]
  intro hk
  have hserves (t : TunnelId) := (h t).2 (prof_inRange hk.1 t) (hk.2 t)
  refine ⟨⟨by rw [State.ProfilesOk, hprofiles]; exact hk.1, fun t => (hserves t).1⟩, fun hh =>
    ⟨fun t => ((hserves t).2 (hh t)).1, fun hl t => ?_⟩⟩
  rw [hprof]
  exact ((hserves t).2 (hh t)).2 (hl t)

/-- A change that leaves the tunnels and the profiles. -/
theorem service_of_same {s r : State} (htunnels : r.tunnels = s.tunnels) (hprofiles : r.profiles = s.profiles) : Service s r := by
  have htun (t : TunnelId) : r.tun t = s.tun t := by rw [State.tun, State.tun, htunnels]
  exact service_of_tunnels hprofiles fun t => by rw [htun]; exact ⟨rfl, .refl _ _⟩

/-- A change at one tunnel, whose entry serves. -/
theorem service_at {t : TunnelId} {s r : State} (hacts : ActsAt t s r) (hprofile : (r.tun t).cfg.profile = (s.tun t).cfg.profile)
    (h : Serves (s.prof t) (s.tun t) (r.tun t)) : Service s r := by
  refine service_of_tunnels hacts.fields.2.2.2.1 fun t' => ?_
  by_cases ht : t' = t
  · subst ht
    exact ⟨hprofile, h⟩
  · rw [hacts.others t' ht]
    exact ⟨rfl, .refl _ _⟩

theorem service_setTun {t : TunnelId} {s : State} {x : Tunnel} (hprofile : x.cfg.profile = (s.tun t).cfg.profile)
    (h : Serves (s.prof t) (s.tun t) x) : Service s (s.setTun t x) :=
  service_at (setTun_acts t x s) (by rw [State.tun_setTun_self, hprofile]) (by rw [State.tun_setTun_self]; exact h)

/-- A change of one entry in what neither keying, health nor limits depend on. -/
theorem service_setTun_inert {t : TunnelId} {s : State} {x : Tunnel} (hprofile : x.cfg.profile = (s.tun t).cfg.profile)
    (hkeyed : KeyedOk (s.tun t) → KeyedOk x) (hhealth : (s.tun t).HealthOk → x.HealthOk)
    (hlimits : (s.tun t).WithinLimits (s.prof t) → x.WithinLimits (s.prof t)) : Service s (s.setTun t x) :=
  service_setTun hprofile fun _ hk => ⟨hkeyed hk, fun hh => ⟨hhealth hh, hlimits⟩⟩

/-! ### The Fault Reporter, the office transmit queue and the cascade list -/

theorem service_of_postFrame {s r : State} (h : State.postFrame s r) : Service s r :=
  service_of_same (congrArg State.tunnels h :) (congrArg State.profiles h :)

theorem service_post (k : FaultKind) (subject : Option Nat) (d : BitVec 32) (s : State) : Service s (post k subject d s) :=
  service_of_postFrame (post_frame k subject d s)

theorem service_postTunnel (k : FaultKind) (t : TunnelId) (d : BitVec 32) (s : State) : Service s (postTunnel k t d s) :=
  service_post k _ d s

theorem service_offerReserved (k : OfficeKind) (f : EthFrame) (s : State) : Service s (offerReserved k f s) :=
  service_of_postFrame (offerReserved_frame k f s)

theorem service_offerClear (f : EthFrame) (s : State) : Service s (offerClear f s) :=
  service_of_postFrame (offerClear_frame f s)

theorem service_sendReply (dst : Mac) (tag : BitVec 16) (code : Byte) (st : Status) (payload : List Byte) (s : State) :
    Service s (sendReply dst tag code st payload s) := service_offerReserved _ _ s

theorem service_sendNotice (s : State) : Service s (sendNotice s) := service_of_postFrame (sendNotice_postFrame s)

theorem service_modCounters (s : State) (f : DeviceCounters → DeviceCounters) : Service s (s.modCounters f) := service_of_same rfl rfl

theorem service_cascadeForward (f : EthFrame) (s : State) : Service s (cascadeForward f s).1 := by
  unfold cascadeForward
  split
  · split <;> exact service_of_same rfl rfl
  · exact .refl s

theorem service_modUplink (u : UplinkId) (f : Uplink → Uplink) (s : State) : Service s (s.modUplink u f) := service_of_same rfl rfl

theorem service_modTunCounters (t : TunnelId) (f : TunnelCounters → TunnelCounters) (s : State) : Service s (s.modTunCounters t f) :=
  service_setTun_inert rfl id id id

/-! ### Grants, discards and uplinks -/

theorem enterDormant_profile (retained : Bool) (x : Tunnel) : (x.enterDormant retained).cfg = x.cfg := by
  unfold Tunnel.enterDormant
  split <;> rfl

theorem headLeft_cfg (retained : Bool) (left : List CarrierFrame) (x : Tunnel) : (headLeft retained left x).cfg = x.cfg := by
  unfold headLeft
  simp only []
  split
  · exact enterDormant_profile retained _
  · rfl

theorem service_enterIfWaiting (t : TunnelId) (s : State) : Service s (enterIfWaiting t s) := by
  rw [enterIfWaiting_eq]
  exact .ite (fun h => service_setTun (by rw [enterDormant_profile]) (serves_enterDormant h.2.2 h.2.1 (.inr h.1) _)) fun _ => .refl s

theorem service_takeHead {g : UplinkId} {t : TunnelId} {rest : List TunnelId} {f : CarrierFrame} {left : List CarrierFrame}
    {s : State} (hqueue : (s.tun t).egress = f :: left) : Service s (takeHead g t rest left s) := by
  rw [takeHead_eq]
  have hdata : (left.filter CarrierFrame.isData).length ≤ (s.tun t).dataFrames := by
    rw [Tunnel.dataFrames, hqueue]
    exact ((List.sublist_cons_self f left).filter _).length_le
  exact (service_setTun (by rw [headLeft_cfg]) (serves_headLeft hdata _)).trans (service_of_same rfl rfl)

theorem service_grantOne (g : UplinkId) (s : State) : Service s (grantOne g s) := by
  unfold grantOne
  split
  · split
    · exact (service_takeHead ‹_›).trans (service_of_same rfl rfl)
    · exact service_of_same rfl rfl
  · exact .refl s

theorem service_serve (g : UplinkId) (s : State) : Service s (serve g s) :=
  (((service_grantOne g s).trans (service_grantOne g _)).trans (service_grantOne g _)).trans (service_grantOne g _)

theorem service_serveAll (s : State) : Service s (serveAll s) :=
  (((service_serve 0 s).trans (service_serve 1 _)).trans (service_serve 2 _)).trans (service_serve 3 _)

theorem service_settle (t : TunnelId) (s : State) : Service s (settle t s) :=
  (service_serveAll s).trans (service_enterIfWaiting t _)

theorem service_discardOne (g : UplinkId) (s : State) : Service s (discardOne g s) := by
  unfold discardOne
  split
  · exact .refl s
  · split
    · split
      · exact (service_takeHead ‹_›).trans (service_of_same rfl rfl)
      · exact service_of_same rfl rfl
    · exact .refl s

theorem service_loseTx (u : UplinkId) (s : State) : Service s (loseTx u s) :=
  .ite (fun _ => service_modUplink u _ s) fun _ => .refl s

theorem service_enterErrored (u : UplinkId) (c : ErrorCause) (s : State) : Service s (enterErrored u c s) := by
  unfold enterErrored
  exact (((service_loseTx u s).trans (service_modUplink u _ _)).trans (service_post _ _ _ _)).trans (service_modUplink u _ _)

theorem service_autoReturn (u : UplinkId) (s : State) : Service s (autoReturn u s) := by
  unfold autoReturn
  exact ((service_modUplink u _ s).trans (service_post _ _ _ _)).trans (service_modUplink u _ _)

/-! ### Enciphering -/

theorem service_control {t : TunnelId} {f : CarrierFrame} {s : State} (hf : f.isData = false) : Service s (enqueue t f s) :=
  service_at (enqueue_acts t f s) (by rw [enqueue_tun]) (by rw [enqueue_tun]; exact serves_control hf)

theorem service_sendCurrent {t : TunnelId} {kind : BitVec 4} {body : List Byte} {s r : State} (hkind : (kind == kindData) = false)
    (h : sendCurrent t kind body s = some r) : Service s r := by
  obtain ⟨c, hcur, hnum, -, rfl⟩ := sendCurrent_some h
  have hspent : Service s (s.setTun t (curSpent c (s.tun t))) := service_setTun (by rfl) (serves_curSpent hcur hnum)
  exact hspent.trans (service_control (by rw [currentFrame_isData]; exact hkind))

/-- A timer armed for a Closed tunnel that is enabled and awake (R140). -/
theorem service_armDormancy {t : TunnelId} {s : State} (henabled : (s.tun t).cfg.enabled = true) (hclosed : (s.tun t).shop = .closed)
    (hawake : (s.tun t).dormant = false) : Service s (armDormancy t s) := by
  rw [armDormancy_eq]
  exact service_setTun (by rfl) (serves_restArmed henabled hclosed hawake)

theorem service_dataActivity {t : TunnelId} {s : State} (henabled : (s.tun t).cfg.enabled = true) (hawake : (s.tun t).dormant = false) :
    Service s (dataActivity t s) := .ite (fun hclosed => service_armDormancy henabled hclosed hawake) fun _ => .refl s

theorem service_encipherData {t : TunnelId} {c : CurGen} {f : EthFrame} {s : State} (hcur : (s.tun t).cur = some c)
    (hnum : c.lastSeq + 1 ≤ (s.prof t).frameLimit) (hroom : (s.tun t).dataFrames < (s.prof t).dataLimit)
    (hawake : (s.tun t).dormant = false) : Service s (encipherData t c f s) := by
  refine .given fun hk => ?_
  have henabled : (s.tun t).cfg.enabled = true := by
    have hbare : (s.tun t).keyState.bare = false := by
      by_contra hbare
      have hnone := (barren_of_bare (hk t) (by simpa using hbare)).cur
      simp [hcur] at hnone
    exact (established_of_not_bare (hk t) hbare).enabled
  have hspent : Serves (s.prof t) (s.tun t) (dataSpent c (s.tun t)) := serves_curSpent hcur hnum
  have hqueued := hspent.trans (serves_data (f := currentFrame s t c kindData f.bytes) (x := dataSpent c (s.tun t)) nofun hroom)
  refine service_at (encipherData_acts t c f s) (by rw [encipherData_eq hcur, enqueue_tun, State.tun_setTun_self]; rfl) ?_
  rw [encipherData_eq hcur, enqueue_tun, State.tun_setTun_self]
  by_cases hclosed : (s.tun t).shop = .closed
  · rw [enciphered_of_closed hclosed]
    exact hqueued.trans (serves_restArmed (x := withQueue ((s.tun t).egress ++ [currentFrame s t c kindData f.bytes])
      (dataSpent c (s.tun t))) henabled hclosed hawake)
  · rw [enciphered_of_open hclosed]
    exact hqueued

end Sys2Proof.Proofs
end

section

namespace Sys2Proof.Proofs

open Sys2Proof Sys2Proof.Machine

/-! ### The exchange -/

/-- An attempt at a tunnel whose entry has just been made ready for it. -/
theorem service_attempt {t : TunnelId} {s r : State} (hacts : ActsAt t s r) (hcfg : (r.tun t).cfg = (s.tun t).cfg) (target : BitVec 8)
    (h : ∀ y, Attempted (r.tun t) y → Serves (s.prof t) (s.tun t) y) : Service s (attempt t target r) :=
  service_at (hacts.trans (attempt_acts t target r)) (by rw [attempt_cfg, hcfg]) (h _ (attempt_attempted t target r))

theorem service_startInitialKeying {t : TunnelId} {s : State}
    (hawake : (s.tun t).cfg.enabled = true → (s.tun t).keyState = .unkeyed → (s.tun t).dormant = false) :
    Service s (startInitialKeying t s) := by
  by_cases h : (s.tun t).cfg.enabled = true ∧ (s.tun t).keyState = .unkeyed
  · rw [startInitialKeying_eq_attempt h.1 h.2]
    refine service_attempt (setTun_acts t _ s) (by rw [State.tun_setTun_self]) 1 fun y hy => ?_
    rw [State.tun_setTun_self] at hy
    exact serves_keyingStart h.2 h.1 (hawake h.1 h.2) hy
  · rw [startInitialKeying_idle t s h]
    exact .refl s

theorem startRenewal_of_none {t : TunnelId} {s : State} (hcur : (s.tun t).cur = none) : startRenewal t s = s := by
  simp only [startRenewal, hcur]

theorem service_startRenewal {t : TunnelId} {s : State} (hawake : (s.tun t).dormant = false) : Service s (startRenewal t s) := by
  cases hkey : (s.tun t).keyState.renewable with
  | false =>
    rw [startRenewal_idle t s hkey]
    exact .refl s
  | true =>
    cases hcur : (s.tun t).cur with
    | none =>
      rw [startRenewal_of_none hcur]
      exact .refl s
    | some c =>
      rw [startRenewal_eq_attempt hcur hkey]
      refine service_attempt (setTun_acts t _ s) (by rw [State.tun_setTun_self]) _ fun y hy => ?_
      rw [State.tun_setTun_self] at hy
      exact serves_renewalStart hcur hkey hawake hy

theorem service_takeAsk {t : TunnelId} {s : State} (hawake : (s.tun t).dormant = false) : Service s (takeAsk t s) :=
  .ite (fun _ => service_startRenewal hawake) fun _ => service_startInitialKeying fun _ _ => hawake

theorem service_further {t : TunnelId} {s : State} {g : BitVec 8} (hkey : (s.tun t).keyState = .offering g)
    (hfew : (s.tun t).attempts < 1 + (s.prof t).retryLimit) : Service s (attempt t g s) :=
  service_attempt (.refl t s) rfl g fun _ hy => serves_further hkey hfew hy

theorem failExchange_tun (t : TunnelId) (g : BitVec 8) (s : State) :
    (failExchange t g s).tun t = exchangeFailed (s.after (s.prof t).retryHoldoff) (s.tun t) := by
  rw [failExchange_eq, State.tun_setTun_self]
  rfl

theorem service_failExchange {t : TunnelId} {s : State} {g : BitVec 8} (hkey : (s.tun t).keyState = .offering g) :
    Service s (failExchange t g s) :=
  service_at (failExchange_acts t g s) (by rw [failExchange_tun]; rfl) (by rw [failExchange_tun]; exact serves_exchangeFailed hkey _)

theorem service_takeAccept (t : TunnelId) (g : BitVec 8) (nonce shopNonce : BitVec 128) (s : State) :
    Service s (takeAccept t g nonce shopNonce s) := by
  refine .ite (fun h => ?_) fun _ => service_modTunCounters t _ s
  have hqueue : Service s (queueDerivation t (.generation g nonce shopNonce) s) := service_of_same rfl rfl
  exact hqueue.trans (service_setTun (s := queueDerivation t (.generation g nonce shopNonce) s) (x := accepted g (s.tun t)) rfl
    (serves_accepted h.1))

/-! ### PENDING and HELD -/

theorem service_enterPending {t : TunnelId} {s : State} (hdue : (s.tun t).dueTestable = true) : Service s (enterPending t s) := by
  obtain ⟨-, hawake, hkey, hholdoff⟩ := (dueTestable_iff _).mp hdue
  rw [enterPending_eq]
  have hstep : Service s (stepped s) := service_of_same rfl rfl
  exact hstep.trans (service_setTun (s := stepped s) rfl (serves_pendingUntil hkey hholdoff hawake _))

theorem service_dueTest (s : State) (t : TunnelId) : Service s (dueTest s t) := by
  unfold dueTest
  split
  · refine .ite (fun h => .ite (fun _ => .given fun hk => ?_) fun _ => ?_) fun _ => .refl s
    · obtain ⟨-, hawake, hkey, hholdoff⟩ := (dueTestable_iff _).mp ((Bool.and_eq_true _ _).mp h).1
      have hheld : s.setTun t (held (s.tun t)) = s.modTun t fun x => { x with keyState := .held } := by
        rw [held, ← undelayed_of_not_pending (hk t) (by simp [hkey])]
        rfl
      rw [← hheld]
      exact service_setTun rfl (serves_held (by rw [hkey]; rfl) hholdoff hawake)
    · exact service_enterPending ((Bool.and_eq_true _ _).mp h).1
  · exact .refl s

theorem service_endJitterDelay {t : TunnelId} {s : State} (hkey : (s.tun t).keyState = .pending) : Service s (endJitterDelay t s) := by
  refine .given fun hk => ?_
  have hawake := awake_of_exchange (hk t) (by rw [hkey]; rfl) (by simp [hkey])
  have hholdoff := no_holdoff (hk t) (by simp [hkey]) (by simp [hkey])
  by_cases hsilent : (s.tun t).health.state = .faultedSilent
  · rw [endJitterDelay_of_silent hsilent]
    exact service_setTun rfl (serves_held (by rw [hkey]; rfl) hholdoff hawake)
  · obtain ⟨c, hcur⟩ := Option.isSome_iff_exists.mp (current_of_renewable (hk t) (by rw [hkey]; rfl))
    rw [endJitterDelay_of_sound hsilent hkey hcur]
    refine (service_attempt (setTun_acts t _ s) (by rw [State.tun_setTun_self]; rfl) _ fun y hy => ?_).trans (service_settle t _)
    rw [State.tun_setTun_self] at hy
    exact serves_renewalStart hcur (by rw [hkey]; rfl) hawake hy

/-! ### Erasing, installing, disabling and the derivations -/

/-- A flush takes the frames of the entry that stands there. -/
theorem flush_setTun {t : TunnelId} {s : State} {x : Tunnel} (hgroup : x.cfg.activeGroup = (s.tun t).cfg.activeGroup) :
    flush t (s.setTun t x) = (flush t s).setTun t { x with egress := [] } := by
  simp only [flush, State.modTun, State.tun_setTun_self, State.setTun_setTun, hgroup, setList_setTun]
  rfl

/-- The entry with its sample count at 0 (R82). -/
def unsampled (x : Tunnel) : Tunnel := { x with sample := 0 }

/-- The entry without generations, in UNKEYED (R78). -/
def unkeyed (x : Tunnel) : Tunnel := { x.dropGenerations with keyState := .unkeyed }

theorem eraseGenerations_of_bare {t : TunnelId} {s : State} (h : (s.tun t).keyState = .noSecret ∨ (s.tun t).keyState = .bootstrap) :
    eraseGenerations t s = (flush t s).setTun t (bareErased (s.tun t)) := by
  have herase : eraseGenerations t s = (flush t (s.setTun t (unsampled (s.tun t)))).modTun t fun x =>
      { x with health := x.health.toOff } := by
    simp only [eraseGenerations, if_pos h]
    rfl
  rw [herase, flush_setTun (x := unsampled (s.tun t)) rfl, State.modTun, State.setTun_setTun, State.tun_setTun_self]
  rfl

theorem eraseGenerations_of_keys {t : TunnelId} {s : State}
    (h : ¬ ((s.tun t).keyState = .noSecret ∨ (s.tun t).keyState = .bootstrap)) :
    eraseGenerations t s = (flush t (abortGeneration t s)).setTun t (generationsErased (s.tun t)) := by
  have herase : eraseGenerations t s = (flush t ((abortGeneration t s).setTun t (unkeyed (s.tun t)))).modTun t fun x =>
      { x with health := x.health.toOff } := by
    simp only [eraseGenerations, if_neg h]
    rfl
  rw [herase, flush_setTun (s := abortGeneration t s) (x := unkeyed (s.tun t)) rfl, State.modTun, State.setTun_setTun,
    State.tun_setTun_self]
  rfl

theorem eraseAll_eq (t : TunnelId) (s : State) : eraseAll t s
    = (abortDerivation t (eraseGenerations t s)).setTun t (secretErased ((eraseGenerations t s).tun t)) := rfl

theorem installSecret_eq (t : TunnelId) (m : MasterSecret) (s : State) : installSecret t m s
    = queueDerivation t .bootstrap ((flush t (abortDerivation t s)).setTun t (installed m (s.tun t))) := by
  simp only [installSecret, State.modTun, flush_tun]
  rfl

/-- A change of the derivation unit and of one tunnel's entry, queue and list. -/
theorem service_dropped {t : TunnelId} {s r : State} {y : Tunnel} (hacts : ActsAt t s r) (htun : r.tun t = y)
    (hcfg : y.cfg.profile = (s.tun t).cfg.profile) (h : Serves (s.prof t) (s.tun t) y) : Service s r :=
  service_at hacts (by rw [htun, hcfg]) (by rw [htun]; exact h)

theorem eraseGenerations_tun (t : TunnelId) (s : State) : (eraseGenerations t s).tun t
    = if (s.tun t).keyState = .noSecret ∨ (s.tun t).keyState = .bootstrap then bareErased (s.tun t) else generationsErased (s.tun t) := by
  split
  next h => rw [eraseGenerations_of_bare h, State.tun_setTun_self]
  next h => rw [eraseGenerations_of_keys h, State.tun_setTun_self]

theorem service_eraseGenerations (t : TunnelId) (s : State) : Service s (eraseGenerations t s) := by
  refine service_dropped (eraseGenerations_acts t s) (eraseGenerations_tun t s) ?_ ?_
  · split <;> rfl
  · split
    next h => exact serves_bareErased h
    next h => exact serves_generationsErased (not_or.mp h)

theorem service_eraseAll (t : TunnelId) (s : State) : Service s (eraseAll t s) := by
  have hall : Serves (s.prof t) (s.tun t) (secretErased ((eraseGenerations t s).tun t)) := by
    rw [eraseGenerations_tun]
    split
    next h =>
      refine .given fun hk => (serves_bareErased h).trans ?_
      have hbare : (s.tun t).keyState.bare = true := by rcases h with h | h <;> rw [h] <;> rfl
      have hnot : (s.tun t).keyState ≠ .unkeyed ∧ (s.tun t).keyState ≠ .keyed := by rcases h with h | h <;> simp [h]
      have b := barren_of_bare hk hbare
      exact serves_secretErased b.cur b.prev ⟨b.nonce, b.attempts⟩ ⟨no_holdoff hk hnot.1 hnot.2, b.jitter, b.grace⟩ rfl rfl
    next h => exact (serves_generationsErased (not_or.mp h)).trans (serves_secretErased rfl rfl ⟨rfl, rfl⟩ ⟨rfl, rfl, rfl⟩ rfl rfl)
  refine service_dropped (eraseAll_acts t s) (by rw [eraseAll_eq, State.tun_setTun_self]) ?_ hall
  rw [eraseGenerations_tun]
  split <;> rfl

theorem service_installSecret (t : TunnelId) (m : MasterSecret) (s : State) : Service s (installSecret t m s) := by
  have htun : (installSecret t m s).tun t = installed m (s.tun t) := by
    rw [installSecret_eq]
    exact State.tun_setTun_self _ t _
  exact service_dropped (installSecret_acts t m s) htun rfl (serves_installed _ _ m)

theorem service_disableTunnel (t : TunnelId) (s : State) : Service s (disableTunnel t s) := by
  have htun : (disableTunnel t s).tun t = withQueue [] (disabled (s.tun t)) := by
    rw [disableTunnel_eq, flush_tun, State.tun_setTun_self]
    rfl
  exact service_dropped (disableTunnel_acts t s) htun rfl (serves_disabled _ _)

theorem service_startDerivation (s : State) : Service s (startDerivation s) :=
  service_of_same (congrArg State.tunnels (startDerivation_frame s) :) (congrArg State.profiles (startDerivation_frame s) :)

theorem service_completeBootstrap (t : TunnelId) (i : KdfInputs) (s : State) : Service s (completeBootstrap t i s) := by
  refine .ite (fun hkey => ?_) fun _ => .refl s
  have hset : Service s (s.setTun t (bootstrapped i (s.tun t))) := service_setTun rfl (serves_bootstrapped hkey i)
  refine .ite (fun _ => hset) fun hawake => hset.trans ?_
  exact service_startInitialKeying (s := s.setTun t (bootstrapped i (s.tun t))) fun _ _ => by
    rw [State.tun_setTun_self]
    exact Bool.eq_false_iff.mpr hawake

end Sys2Proof.Proofs
end

section

namespace Sys2Proof.Proofs

open Sys2Proof Sys2Proof.Machine

/-! ### Probes, misses and releases -/

theorem service_modHealth {t : TunnelId} {s : State} {f : Health → Health}
    (h : Serves (s.prof t) (s.tun t) (withHealth (f (s.tun t).health) (s.tun t))) : Service s (s.modHealth t f) :=
  service_setTun rfl h

@[simp] theorem modHealth_health (t : TunnelId) (f : Health → Health) (s : State) :
    ((s.modHealth t f).tun t).health = f (s.tun t).health := by
  rw [modHealth_eq, putHealth_tun, withHealth_health]

theorem service_toSeeding {t : TunnelId} {s : State} (hon : (s.tun t).health.state ≠ .off) : Service s (s.modHealth t Health.toSeeding) :=
  service_modHealth (serves_seeded hon)

theorem service_seedingPosted {t : TunnelId} {s : State} (hon : (s.tun t).health.state ≠ .off) (k : FaultKind) (d : BitVec 32) :
    Service s ((postTunnel k t d s).modHealth t Health.toSeeding) :=
  (service_postTunnel k t d s).trans (service_toSeeding (by rw [postTunnel, post_tun]; exact hon))

theorem service_silentReleased (t : TunnelId) (s : State) : Service s (silentReleased t s) :=
  .ite (fun hkey => .given fun hk =>
    service_startRenewal (awake_of_exchange (hk t) (by rw [hkey]; rfl) (by simp [hkey]))) fun _ => .refl s

theorem service_releaseSilent {t : TunnelId} {s : State} (hon : (s.tun t).health.state ≠ .off) (cause : BitVec 32) :
    Service s (releaseSilent t cause s) := (service_seedingPosted hon _ cause).trans (service_silentReleased t _)

theorem service_releaseDelay {t : TunnelId} {s : State} (hon : (s.tun t).health.state ≠ .off) (cause : BitVec 32) :
    Service s (releaseDelay t cause s) := service_seedingPosted hon _ cause

theorem service_armProbe {t : TunnelId} {s : State} (hon : (s.tun t).health.state ≠ .off) : Service s (armProbe t s) :=
  service_modHealth (serves_probeArmed hon _)

theorem service_dropStaleProbe {t : TunnelId} {s : State} (hon : (s.tun t).health.state ≠ .off) : Service s (dropStaleProbe t s) :=
  service_modHealth (serves_freshProbe hon _)

theorem service_takeMiss (t : TunnelId) (number : BitVec 8) (s : State) : Service s (takeMiss t number s) := by
  refine .ite (fun _ => .refl s) fun h => ?_
  rw [not_or, not_or] at h
  obtain ⟨hopen, hsound, hon⟩ := h
  exact .ite (fun hfew => service_modHealth (serves_missCounted hon hopen hfew)) fun _ =>
    (service_modHealth (serves_silenced hon hopen hsound)).trans (service_postTunnel _ t _ _)

theorem service_missTest (t : TunnelId) (isSwitch : Bool) (s : State) : Service s (missTest t isSwitch s) := by
  rw [missTest_eq]
  split
  · exact .ite (fun _ => .refl s) fun _ => service_takeMiss t _ s
  · exact .refl s

/-- A miss takes no tunnel to Off (R116). -/
theorem missTest_on {t : TunnelId} {s : State} (hon : (s.tun t).health.state ≠ .off) (isSwitch : Bool) :
    ((missTest t isSwitch s).tun t).health.state ≠ .off := by
  rw [missTest_eq]
  split
  · split
    · exact hon
    · rename_i o _ _
      by_cases hcounted : (s.tun t).shop = .closed ∨ (s.tun t).health.state = .faultedSilent ∨ (s.tun t).health.state = .off
      · rw [takeMiss_of_uncounted hcounted]
        exact hon
      · rw [not_or, not_or] at hcounted
        obtain ⟨hopen, hsound, -⟩ := hcounted
        by_cases hfew : (s.tun t).health.miss + 1 < (s.prof t).missLimit
        · rw [takeMiss_of_few hopen hsound hon hfew, State.tun_setTun_self]
          exact hon
        · rw [takeMiss_of_last hopen hsound hon (not_lt.mp hfew), post_tun, State.tun_setTun_self]
          exact (by decide : HealthState.faultedSilent ≠ .off)
  · exact hon

theorem sendCurrent_health {t : TunnelId} {kind : BitVec 4} {body : List Byte} {s r : State} (h : sendCurrent t kind body s = some r) :
    (r.tun t).health = (s.tun t).health := by
  obtain ⟨c, -, -, -, rfl⟩ := sendCurrent_some h
  rw [enqueue_tun, State.tun_setTun_self]

theorem service_attemptProbe {t : TunnelId} {s : State} (hon : (s.tun t).health.state ≠ .off) (isSwitch : Bool) :
    Service s (attemptProbe t isSwitch s) := by
  unfold attemptProbe
  split
  · simp only []
    split
    · exact .refl s
    · rename_i r hsend
      refine ((service_sendCurrent (by decide) hsend).trans (service_missTest t isSwitch r)).trans (service_modHealth ?_)
      exact serves_probeRecorded (missTest_on (by rw [sendCurrent_health hsend]; exact hon) isSwitch) _ _
  · exact .refl s

/-- A probe attempt takes no tunnel to Off (R113). -/
theorem attemptProbe_on {t : TunnelId} {s : State} (hon : (s.tun t).health.state ≠ .off) (isSwitch : Bool) :
    ((attemptProbe t isSwitch s).tun t).health.state ≠ .off := by
  unfold attemptProbe
  split
  · simp only []
    split
    · exact hon
    · rename_i r hsend
      rw [modHealth_health]
      exact missTest_on (by rw [sendCurrent_health hsend]; exact hon) isSwitch
  · exact hon

theorem service_takeProbeExpiry {t : TunnelId} {s : State} (hon : (s.tun t).health.state ≠ .off) : Service s (takeProbeExpiry t s) := by
  have hfresh : ((dropStaleProbe t s).tun t).health.state ≠ .off := by
    rw [dropStaleProbe, modHealth_health]
    exact hon
  exact (((service_dropStaleProbe hon).trans (service_attemptProbe hfresh false)).trans
    (service_armProbe (attemptProbe_on hfresh false))).trans (service_settle t _)

/-! ### Samples -/

theorem service_seedSample {t : TunnelId} {s : State} (hstate : (s.tun t).health.state = .seeding) (n : Nat) :
    Service s (seedSample t n s) := by
  refine .ite (fun hfew => service_modHealth (serves_seedKept hstate hfew)) fun _ => .ite (fun _ => service_modHealth ?_) fun _ =>
    (service_modHealth ?_).trans (service_postTunnel _ t _ _)
  · exact serves_seedEnded hstate (.inl rfl) rfl rfl rfl rfl ⟨rfl, rfl⟩
  · exact serves_seedEnded hstate (.inr rfl) rfl rfl rfl rfl ⟨rfl, rfl⟩

theorem service_baselineStep {t : TunnelId} {s : State} (hon : (s.tun t).health.state ≠ .off) (n : Nat) :
    Service s (baselineStep t n s) := by
  have hbase : Service s (s.modHealth t fun h => { h with base := filterStep h.base (16 * n) (s.prof t).baseBeta }) :=
    service_modHealth (serves_rebased (q := s.prof t) (n := n) hon)
  refine .ite (fun _ => .ite (fun _ => hbase) fun _ => hbase.trans (service_seedingPosted ?_ _ _)) fun _ => hbase
  rw [modHealth_health]
  exact hon

theorem service_decideDelay {t : TunnelId} {s : State}
    (hstate : (s.tun t).health.state = .normal ∨ (s.tun t).health.state = .suspect) (n : Nat) : Service s (decideDelay t n s) := by
  refine .ite (fun _ => ?_) fun _ => .ite (fun hfew => service_modHealth (serves_suspected hstate hfew)) fun _ => ?_
  · refine (service_modHealth (serves_leftNormal hstate)).trans (service_baselineStep ?_ n)
    rw [modHealth_health]
    exact (by decide : HealthState.normal ≠ .off)
  · exact (service_modHealth (serves_delayed hstate)).trans (service_postTunnel _ t _ _)

theorem service_decideRelease {t : TunnelId} {s : State} (hstate : (s.tun t).health.state = .faultedDelay) :
    Service s (decideRelease t s) := by
  have hsettle : Service s (s.modHealth t (settleHealth (s.prof t))) := service_modHealth (serves_settled hstate)
  have hon : ((s.modHealth t (settleHealth (s.prof t))).tun t).health.state ≠ .off := by
    rw [modHealth_health]
    change (s.tun t).health.state ≠ .off
    simp [hstate]
  exact .ite (fun _ => hsettle.trans (service_releaseDelay hon 1)) fun _ =>
    .ite (fun _ => hsettle.trans (service_releaseDelay hon 2)) fun _ => hsettle

theorem service_filterSample {t : TunnelId} {s : State} (hstate : (s.tun t).health.state = .normal
    ∨ (s.tun t).health.state = .suspect ∨ (s.tun t).health.state = .faultedDelay) (n : Nat) : Service s (filterSample t n s) := by
  have hon : (s.tun t).health.state ≠ .off := by rcases hstate with h | h | h <;> simp [h]
  have hfilter : Service s (s.modHealth t (filterHealth (s.prof t) n (compensation s t))) := service_modHealth (serves_sampled hon)
  have hkept : ((s.modHealth t (filterHealth (s.prof t) n (compensation s t))).tun t).health.state = (s.tun t).health.state := by
    rw [modHealth_health]
    rfl
  refine .ite (fun hdelay => hfilter.trans (service_decideRelease (hkept.trans hdelay))) fun hprompt =>
    hfilter.trans (service_decideDelay ?_ n)
  rw [hkept]
  rcases hstate with h | h | h
  · exact .inl h
  · exact .inr h
  · exact absurd h hprompt

theorem service_takeSample (t : TunnelId) (n : Nat) (s : State) : Service s (takeSample t n s) := by
  unfold takeSample
  split
  next h => exact service_seedSample h n
  next h => exact service_filterSample (.inl h) n
  next h => exact service_filterSample (.inr (.inl h)) n
  next h => exact service_filterSample (.inr (.inr h)) n
  next => exact .refl s
  next => exact .refl s
  next => exact .refl s

theorem service_takeEcho (t : TunnelId) (number : BitVec 8) (arrival : BitVec 32) (s : State) : Service s (takeEcho t number arrival s) := by
  have hrelease : Service s (if (s.tun t).health.state = .faultedSilent then releaseSilent t 3 s else s) :=
    .ite (fun h => service_releaseSilent (by simp [h]) 3) fun _ => .refl s
  unfold takeEcho
  simp only []
  split
  · exact hrelease
  · exact .ite (fun h => (hrelease.trans (service_modHealth (serves_answered h.2))).trans (service_takeSample t _ _)) fun _ => hrelease

/-! ### The switch -/

theorem groupLive_acts {t : TunnelId} {s r : State} (h : ActsAt t s r) (g : UplinkId) : r.groupLive g = s.groupLive g := by
  obtain ⟨-, -, -, -, huplinks, hflags, -⟩ := h.fields
  have hup : r.isUp = s.isUp := funext fun u => by simp only [State.isUp, State.uplink, huplinks]
  rw [State.groupLive, State.members, hflags, hup, State.groupLive, State.members]

theorem switchGeneration_cases (t : TunnelId) (target : BitVec 8) (i : KdfInputs) (s : State) (hlimit : 1 ≤ (s.prof t).frameLimit) :
    let new := newGeneration target i (s.after 100)
    let y := switchedTo new (s.after (s.prof t).grace) (s.tun t)
    let e := probeTick s t (s.tun t).shop
    (switchGeneration t target i s).tun t = probeArmed e y
      ∨ ∃ f : CarrierFrame, f.isData = false
        ∧ (switchGeneration t target i s).tun t = withQueue (y.egress ++ [f]) (switchProbed new s.clock e y) := by
  intro new y e
  have hentry : (switchKeys t target i s).tun t = y := switchKeys_tun t target i s
  by_cases hroom : s.groupLive (s.tun t).cfg.activeGroup = true ∧ 0 < (unconfirmed t s).freeSlots
  · right
    refine ⟨_, currentFrame_isData s t new kindProbe (probeBody (y.health.probe + 1)), ?_⟩
    rw [switchGeneration_of_sent hroom.1 hroom.2 hlimit, enqueue_tun, State.tun_setTun_self]
    rfl
  · left
    have hunsent : attemptProbe t true (switchKeys t target i s) = switchKeys t target i s := by
      rcases not_and_or.mp hroom with hdead | hfull
      · refine attemptProbe_dead t true _ ?_
        rw [hentry]
        rw [groupLive_acts (switchKeys_acts t target i s)]
        exact Bool.eq_false_iff.mpr hdead
      · exact attemptProbe_of_unsent (sendCurrent_of_unable (c := new) (by rw [hentry]; rfl)
          (.inr ((switchKeys_freeSlots t target i s).trans (Nat.eq_zero_of_not_pos hfull))) _ _) true
    rw [switchGeneration_of_unsent hunsent, State.tun_setTun_self]

theorem service_switchGeneration {t : TunnelId} {s : State} {target : BitVec 8} (hkey : (s.tun t).keyState = .deriv target)
    (i : KdfInputs) : Service s (switchGeneration t target i s) := by
  intro hk
  have hrange := prof_inRange hk.1 t
  have hlimit : 1 ≤ (s.prof t).frameLimit := by
    obtain ⟨h, -⟩ := hrange
    omega
  have hacts := switchGeneration_acts t target i s
  rcases switchGeneration_cases t target i s hlimit with hunsent | ⟨f, hf, hsent⟩
  · refine service_at hacts (by rw [hunsent]; rfl) ?_ hk
    rw [hunsent]
    exact serves_switched hkey ⟨rfl, rfl⟩ _ _
  · refine service_at hacts (by rw [hsent]; rfl) ?_ hk
    rw [hsent]
    exact serves_switchProbed hkey ⟨rfl, rfl⟩ hf _ _ _

theorem service_takeDerived (d : KduFlight) (s : State) : Service s (takeDerived d s) := by
  unfold takeDerived
  split
  · exact .refl s
  · exact service_completeBootstrap _ _ s
  · exact .ite (fun hkey => service_switchGeneration hkey _) fun _ => .refl s

end Sys2Proof.Proofs
end

section

namespace Sys2Proof.Proofs

open Sys2Proof Sys2Proof.Machine

/-! ### The wake -/

theorem wokenTimer_cfg (e : Tick) (x : Tunnel) : (wokenTimer e x).cfg = x.cfg := by
  unfold wokenTimer
  split <;> rfl

theorem service_wake (t : TunnelId) (s : State) : Service s (wake t s) := by
  by_cases hdormant : (s.tun t).dormant = true
  · refine .given fun hk => ?_
    obtain ⟨henabled, -, -⟩ := (hk t).2.2.2.1 hdormant
    by_cases hcur : (s.tun t).cur = none
    · by_cases hkey : (s.tun t).keyState = .unkeyed
      · rw [wake_of_unkeyed hdormant hcur henabled hkey]
        have hstart : Service s (attempt t 1 (s.setTun t (keyingStart (awake (s.tun t))))) :=
          service_attempt (setTun_acts t _ s) (by rw [State.tun_setTun_self]; rfl) 1 fun y hy => by
            rw [State.tun_setTun_self] at hy
            exact (serves_awake hcur).trans (serves_keyingStart hkey henabled rfl hy)
        refine hstart.trans (service_setTun (by rw [wokenTimer_cfg]) (serves_wokenTimer ?_ ?_ _))
        · rw [attempt_cfg, State.tun_setTun_self]
          exact henabled
        · rw [attempt_dormant, State.tun_setTun_self]
          rfl
      · rw [wake_of_idle hdormant hcur fun h => hkey h.2]
        exact service_setTun (by rw [wokenTimer_cfg]; rfl)
          ((serves_awake hcur).trans (serves_wokenTimer (x := awake (s.tun t)) henabled rfl _))
    · rw [wake_of_keyed hdormant hcur]
      exact service_setTun (by rw [wokenTimer_cfg]; rfl)
        ((serves_wokenKeyed hdormant hcur _).trans (serves_wokenTimer (x := wokenKeyed s.tick (s.tun t)) henabled rfl _))
  · rw [wake_awake t s (by simpa using hdormant)]
    exact .refl s

/-! ### A change of shop state -/

theorem stepped_setTun (s : State) (t : TunnelId) (x : Tunnel) : (stepped s).setTun t x = stepped (s.setTun t x) := rfl

theorem service_stepped (s : State) : Service s (stepped s) := service_of_same rfl rfl

theorem service_among_open {t : TunnelId} {new : ShopState} {s : State} (hold : (s.tun t).shop ≠ .closed) (hnew : new ≠ .closed) :
    Service s (changeShop t new s) := by
  refine .given fun hk => ?_
  have hopened := serves_opened (p := s.prof t) hnew (awake_of_open (hk t) hold)
  have hentry : (s.setTun t (shopped new (s.tun t))).tun t = shopped new (s.tun t) := State.tun_setTun_self _ _ _
  rw [changeShop_among_open hold hnew]
  by_cases hworn : new = .closing ∧ Worn ((s.setTun t (shopped new (s.tun t))).prof t) ((s.setTun t (shopped new (s.tun t))).tun t)
  · have hdone := shopChange_end_of_worn hnew hworn.1 hworn.2
    rw [hentry] at hdone
    rw [hdone]
    obtain ⟨-, hawake, hkeyed, hholdoff, -⟩ := hentry ▸ hworn.2
    have hset : Service s (s.setTun t (pendingUntil (jitterTick (s.setTun t (shopped new (s.tun t)))) (restCleared (shopped new (s.tun t))))) :=
      service_setTun rfl (hopened.trans
        (serves_pendingUntil (x := restCleared (shopped new (s.tun t))) hkeyed hholdoff hawake _))
    rw [stepped_setTun, State.setTun_setTun]
    exact hset.trans (service_stepped _)
  · rw [shopChange_end_of_unworn hnew hworn, hentry, State.setTun_setTun]
    exact service_setTun rfl hopened

/-- The entry after the wake that a change out of Closed makes, without its timer (R139, R145). -/
theorem serves_openedWake {t : TunnelId} {new : ShopState} {s : State} (hk : KeyedOk (s.tun t)) (hnew : new ≠ .closed) :
    Serves (s.prof t) (s.tun t) (restCleared ((openedWake t new s).tun t)) := by
  have hentry : (s.setTun t (shopped new (s.tun t))).tun t = shopped new (s.tun t) := State.tun_setTun_self _ _ _
  have hrest (e : Tick) (y : Tunnel) : restCleared (wokenTimer e y) = restCleared y := by
    unfold wokenTimer
    split <;> rfl
  by_cases hdormant : (s.tun t).dormant = true
  · obtain ⟨henabled, -, -⟩ := hk.2.2.2.1 hdormant
    by_cases hcur : (s.tun t).cur = none
    · have hawake : Serves (s.prof t) (s.tun t) (restCleared (shopped new (awake (s.tun t)))) :=
        (serves_awake hcur).trans (serves_opened hnew rfl)
      by_cases hkey : (s.tun t).keyState = .unkeyed
      · rw [openedWake, wake_of_unkeyed (by rw [hentry]; exact hdormant) (by rw [hentry]; exact hcur) (by rw [hentry]; exact henabled)
          (by rw [hentry]; exact hkey), State.tun_setTun_self, hrest, hentry, State.setTun_setTun]
        have hattempted := (attempt_attempted t 1 (s.setTun t (keyingStart (awake (shopped new (s.tun t)))))).restCleared
        rw [State.tun_setTun_self] at hattempted
        exact hawake.trans (serves_keyingStart (x := restCleared (shopped new (awake (s.tun t)))) hkey henabled rfl hattempted)
      · rw [openedWake, wake_of_idle (by rw [hentry]; exact hdormant) (by rw [hentry]; exact hcur) (by rw [hentry]; exact fun h => hkey h.2),
          State.tun_setTun_self, hrest, hentry]
        exact hawake
    · rw [openedWake, wake_of_keyed (by rw [hentry]; exact hdormant) (by rw [hentry]; exact hcur), State.tun_setTun_self, hrest, hentry]
      exact (serves_wokenKeyed hdormant hcur s.tick).trans (serves_opened (x := wokenKeyed s.tick (s.tun t)) hnew rfl)
  · have hawake : (s.tun t).dormant = false := by simpa using hdormant
    rw [openedWake, wake_awake t _ (by rw [hentry]; exact hawake), hentry]
    exact serves_opened hnew hawake

theorem probeRestarted_restCleared (e : Tick) (x : Tunnel) : restCleared (probeRestarted e x) = probeRestarted e (restCleared x) := by
  unfold probeRestarted
  exact apply_ite restCleared _ _ _

theorem probeRestarted_cfg (e : Tick) (x : Tunnel) : (probeRestarted e x).cfg = x.cfg := by
  unfold probeRestarted
  split <;> rfl

theorem probeRestarted_keys (e : Tick) (x : Tunnel) : (probeRestarted e x).keyState = x.keyState
    ∧ (probeRestarted e x).holdoff = x.holdoff ∧ (probeRestarted e x).dormant = x.dormant := by
  unfold probeRestarted
  split <;> exact ⟨rfl, rfl, rfl⟩

theorem serves_pendingRestarted {p q : Profile} {w : Tunnel} (hworn : Worn q w) (expiry e : Tick) :
    Serves p (restCleared (probeRestarted expiry w)) (pendingUntil e (restCleared (probeRestarted expiry w))) := by
  obtain ⟨-, hawake, hkeyed, hholdoff, -⟩ := hworn
  obtain ⟨hkey, hrest, hdormant⟩ := probeRestarted_keys expiry w
  exact serves_pendingUntil (x := restCleared (probeRestarted expiry w)) (hkey.trans hkeyed) (hrest.trans hholdoff) (hdormant.trans hawake) e

theorem service_opening {t : TunnelId} {new : ShopState} {s : State} (hold : (s.tun t).shop = .closed) (hnew : new ≠ .closed) :
    Service s (changeShop t new s) := by
  refine .given fun hk => ?_
  have hcfg : (restCleared (probeRestarted (probeTick s t .unknown) ((openedWake t new s).tun t))).cfg = (s.tun t).cfg :=
    (probeRestarted_cfg _ _).trans (openedWake_cfg t new s)
  have hopened : Serves (s.prof t) (s.tun t)
      (restCleared (probeRestarted (probeTick s t .unknown) ((openedWake t new s).tun t))) := by
    rw [probeRestarted_restCleared]
    exact (serves_openedWake (hk t) hnew).trans (serves_probeRestarted _ _ _)
  by_cases hworn : new = .closing ∧ Worn (s.prof t) ((openedWake t new s).tun t)
  · rw [changeShop_opening_of_worn hold hnew hworn.1 hworn.2]
    have hset : Service s ((openedWake t new s).setTun t (pendingUntil (jitterTick s)
        (restCleared (probeRestarted (probeTick s t .unknown) ((openedWake t new s).tun t))))) := by
      refine service_at ((openedWake_acts t new s).trans (setTun_acts t _ _)) ?_ ?_
      · rw [State.tun_setTun_self]
        exact congrArg TunnelConfig.profile hcfg
      · rw [State.tun_setTun_self]
        exact hopened.trans (serves_pendingRestarted hworn.2 _ _)
    rw [stepped_setTun]
    exact hset.trans (service_stepped _)
  · rw [changeShop_opening_of_unworn hold hnew hworn]
    refine service_at ((openedWake_acts t new s).trans (setTun_acts t _ _)) ?_ ?_
    · rw [State.tun_setTun_self, hcfg]
    · rw [State.tun_setTun_self]
      exact hopened

theorem armedIfEnabled_cfg (e : Tick) (x : Tunnel) : (armedIfEnabled e x).cfg = x.cfg := by
  unfold armedIfEnabled
  split <;> rfl

theorem service_armedIfEnabled {t : TunnelId} {s : State} (hclosed : (s.tun t).shop = .closed) (hawake : (s.tun t).dormant = false)
    (e : Tick) : Service s (s.setTun t (armedIfEnabled e (s.tun t))) :=
  service_setTun (by rw [armedIfEnabled_cfg]) (serves_armedIfEnabled hclosed hawake e)

theorem service_closing {t : TunnelId} {s : State} (hold : (s.tun t).shop ≠ .closed) : Service s (changeShop t .closed s) := by
  refine .given fun hk => ?_
  have hawake := awake_of_open (hk t) hold
  by_cases hoff : (s.tun t).health.state = .off
  · have hentry : (s.setTun t (shopped .closed (s.tun t))).tun t = shopped .closed (s.tun t) := State.tun_setTun_self _ _ _
    rw [changeShop_closing_of_health hold (healthShopChange_of_off (by rw [hentry]; exact hoff) _ _) (by rw [hentry]; rfl)]
    refine (service_setTun (x := shopped .closed (s.tun t)) rfl (serves_closed_off hold hoff)).trans ?_
    exact service_armedIfEnabled (by rw [hentry]; rfl) (by rw [hentry]; exact hawake) _
  · by_cases hsilent : (s.tun t).health.state = .faultedSilent
    · have hentry (r : State) : (r.setTun t (seeded (closedEntry s t))).tun t = seeded (closedEntry s t) := State.tun_setTun_self _ _ _
      have hseeded : Serves (s.prof t) (s.tun t) (seeded (closedEntry s t)) := serves_closed_silent hold hoff _
      have hposted : ActsAt t s (post .release (some t.val) 4 (s.setTun t (closedEntry s t))) :=
        (setTun_acts t _ s).trans (postTunnel_acts .release t 4 _)
      by_cases hkey : (s.tun t).keyState = .held
      · obtain ⟨c, hcur⟩ := Option.isSome_iff_exists.mp (current_of_renewable (hk t) (by rw [hkey]; rfl))
        rw [closing_of_silent_held hold hsilent hkey hcur]
        refine (service_attempt (hposted.trans (setTun_acts t _ _)) (by rw [State.tun_setTun_self]; rfl) _ fun y hy => ?_).trans
          (service_armedIfEnabled ?_ ?_ _)
        · rw [State.tun_setTun_self] at hy
          exact hseeded.trans (serves_renewalStart (x := seeded (closedEntry s t)) hcur
            (show (s.tun t).keyState.renewable = true by rw [hkey]; rfl) hawake hy)
        · rw [attempt_shop, State.tun_setTun_self]
          rfl
        · rw [attempt_dormant, State.tun_setTun_self]
          exact hawake
      · rw [closing_of_silent_not_held hold hsilent hkey]
        refine service_at (hposted.trans (setTun_acts t _ _)) (by rw [State.tun_setTun_self, armedIfEnabled_cfg]; rfl) ?_
        rw [State.tun_setTun_self]
        exact hseeded.trans (serves_armedIfEnabled (x := seeded (closedEntry s t)) rfl hawake _)
    · rw [closing_of_sound hold hoff hsilent]
      exact service_setTun (by rw [armedIfEnabled_cfg]; rfl) ((serves_closed_sound hold hoff hsilent _).trans
        (serves_armedIfEnabled (x := missCleared (closedEntry s t)) rfl hawake _))

theorem service_setShop (t : TunnelId) (new : ShopState) (s : State) : Service s (setShop t new s) := by
  refine .ite (fun _ => .refl s) fun hchange => ?_
  by_cases hnew : new = .closed
  · subst hnew
    exact service_closing hchange
  · by_cases hold : (s.tun t).shop = .closed
    · exact service_opening hold hnew
    · exact service_among_open hold hnew

/-! ### The enable and the tunnel checks -/

theorem service_enableTunnel {t : TunnelId} {s : State} (hdisabled : (s.tun t).cfg.enabled = false) : Service s (enableTunnel t s) := by
  refine .given fun hk => ?_
  have hawake := awake_of_disabled (hk t) hdisabled
  have hentry : (s.setTun t (nowEnabled (s.tun t))).tun t = nowEnabled (s.tun t) := State.tun_setTun_self _ _ _
  have henable : Service s (s.setTun t (nowEnabled (s.tun t))) := service_setTun rfl (serves_nowEnabled hdisabled)
  have harmed : Service s (if (s.tun t).shop = .closed then armDormancy t (s.setTun t (nowEnabled (s.tun t)))
      else s.setTun t (nowEnabled (s.tun t))) :=
    .ite (fun hclosed => henable.trans (service_armDormancy (by rw [hentry]; rfl) (by rw [hentry]; exact hclosed)
      (by rw [hentry]; exact hawake))) fun _ => henable
  refine harmed.trans (service_startInitialKeying fun _ _ => ?_)
  split
  · rw [armDormancy_eq, State.tun_setTun_self, hentry]
    exact hawake
  · rw [hentry]
    exact hawake

theorem service_snoop (t : TunnelId) (f : EthFrame) (s : State) : Service s (snoop t f s) := by
  unfold snoop
  split
  · exact .ite (fun _ => service_setShop t _ s) fun _ => .refl s
  · exact .refl s

theorem service_dropNoKey {t : TunnelId} {s : State} (hawake : (s.tun t).dormant = false) : Service s (dropNoKey t s) := by
  have hcount := service_modTunCounters t (fun c => { c with noKey := satInc c.noKey }) s
  refine .ite (fun _ => hcount.trans (service_startInitialKeying fun _ _ => ?_)) fun _ => hcount
  rw [State.modTunCounters, State.modTun, State.tun_setTun_self]
  exact hawake

theorem service_checkAndEncipher {t : TunnelId} {c : CurGen} {f : EthFrame} {s : State} (hcur : (s.tun t).cur = some c)
    (hawake : (s.tun t).dormant = false) : Service s (checkAndEncipher t c f s) := by
  refine .ite (fun _ => (service_modTunCounters t _ s).trans (service_postTunnel _ t _ _)) fun hworn => .ite
    (fun _ => (service_modTunCounters t _ s).trans (service_postTunnel _ t _ _)) fun hfit => ?_
  rw [exhausted_or_expired_iff] at hworn
  simp only [Bool.or_eq_true, decide_eq_true_iff] at hfit
  exact service_encipherData hcur (by omega) (by omega) hawake

theorem service_tunnelChecks (t : TunnelId) (f : EthFrame) (s : State) : Service s (tunnelChecks t f s) := by
  refine .ite (fun _ => (service_wake t s).trans ?_) fun _ => service_modTunCounters t _ s
  simp only []
  split
  · exact service_dropNoKey (wake_dormant t s)
  · exact service_checkAndEncipher ‹_› (wake_dormant t s)

/-! ### The inbound path -/

theorem service_retirePrevious (t : TunnelId) (m : Match) (s : State) : Service s (s.modTun t fun x => x.retirePrevious m) :=
  service_setTun (by dsimp only; rw [retirePrevious_eq]) (serves_retirePrevious _ _ m)

theorem service_setWindow (t : TunnelId) (m : Match) (w : Window) (s : State) : Service s (s.modTun t fun x => x.setWindow m w) :=
  service_setTun (by cases m <;> rfl) (serves_setWindow _ _ m w)

theorem service_answerProbe (t : TunnelId) (body : List Byte) (s : State) : Service s (answerProbe t body s) := by
  unfold answerProbe
  cases hsend : sendCurrent t kindEcho body s with
  | none => exact .refl s
  | some r => exact service_sendCurrent (by decide) hsend

theorem offerClear_tun (f : EthFrame) (s : State) (t : TunnelId) : (offerClear f s).tun t = s.tun t := by
  have htunnels : (offerClear f s).tunnels = s.tunnels := (congrArg State.tunnels (offerClear_frame f s) :)
  rw [State.tun, htunnels, State.tun]

theorem service_takeData {t : TunnelId} {s : State} (henabled : (s.tun t).cfg.enabled = true) (hawake : (s.tun t).dormant = false)
    (body : List Byte) : Service s (takeData t body s) := by
  refine ((service_modTunCounters t _ s).trans (service_offerClear _ _)).trans (service_dataActivity ?_ ?_)
  · rw [offerClear_tun, State.modTunCounters, State.modTun, State.tun_setTun_self]
    exact henabled
  · rw [offerClear_tun, State.modTunCounters, State.modTun, State.tun_setTun_self]
    exact hawake

theorem service_dispatch {t : TunnelId} {s : State} (henabled : (s.tun t).cfg.enabled = true) (hawake : (s.tun t).dormant = false)
    (h : TunnelHeader) (m : Match) (body : List Byte) (arrival : BitVec 32) : Service s (dispatch t h m body arrival s) :=
  .ite (fun _ => service_takeData henabled hawake body) fun _ => .ite (fun _ => service_answerProbe t body s) fun _ =>
    .ite (fun _ => service_takeEcho t _ arrival s) fun _ => .ite (fun _ => service_modTunCounters t _ s) fun _ =>
      .ite (fun _ => service_takeAccept t _ _ _ s) fun _ => service_takeAsk hawake

theorem service_takeValid {t : TunnelId} {s : State} (henabled : (s.tun t).cfg.enabled = true) (h : TunnelHeader) (m : Match) (w : Window)
    (body : List Byte) (arrival : BitVec 32) : Service s (takeValid t h m w body arrival s) := by
  have hcfg : ((s.tun t).setWindow m w).cfg = (s.tun t).cfg := by cases m <;> rfl
  refine (((service_setWindow t m w s).trans (service_wake t _)).trans (service_retirePrevious t m _)).trans
    ((service_dispatch ?_ ?_ h m body arrival).trans (service_settle t _))
  · rw [State.modTun, State.tun_setTun_self, retirePrevious_eq]
    dsimp only
    rw [wake_cfg, State.modTun, State.tun_setTun_self, hcfg]
    exact henabled
  · rw [State.modTun, State.tun_setTun_self, retirePrevious_eq]
    exact wake_dormant t _

theorem service_takeAtTunnel (t : TunnelId) (h : TunnelHeader) (d : Delivered) (s : State) : Service s (takeAtTunnel t h d s) := by
  unfold takeAtTunnel
  split
  · exact service_modCounters s _
  · rename_i hactive
    have henabled : (s.tun t).cfg.enabled = true := by simpa using (not_or.mp hactive).1
    split
    · exact service_modTunCounters t _ s
    · split
      · exact (service_modTunCounters t _ s).trans (service_postTunnel _ t _ _)
      · split
        · exact service_takeValid henabled h _ _ _ _
        · exact (service_modTunCounters t _ s).trans (service_postTunnel _ t _ _)
        · exact service_modTunCounters t _ s

theorem service_takeDelivered (d : Delivered) (s : State) : Service s (takeDelivered d s) := by
  unfold takeDelivered
  split
  · split
    · exact service_modCounters s _
    · exact service_takeAtTunnel _ _ d s
  · exact service_modCounters s _

end Sys2Proof.Proofs
end

section

namespace Sys2Proof.Proofs

open Sys2Proof Sys2Proof.Machine

/-! ### Profiles and tunnel entries written by management (R21, R29) -/

theorem disabled_of_unnamed {s : State} {p : ProfileId} (h : s.enabledNaming p = 0) {t : TunnelId} (ht : (s.tun t).cfg.profile = p) :
    (s.tun t).cfg.enabled = false := by
  by_contra henabled
  rw [State.enabledNaming, List.length_eq_zero_iff, List.filter_eq_nil_iff] at h
  have hmem : s.tun t ∈ s.tunnels.toList := by
    rw [vector_toList_eq_map]
    exact List.mem_map.mpr ⟨t, List.mem_finRange t, rfl⟩
  exact h _ hmem (by simp [ht, henabled])

/-- A profile that no enabled tunnel names is replaced (R29). -/
theorem service_profile {s : State} {p : ProfileId} (h : s.enabledNaming p = 0) (values : Profile) :
    Service s { s with profiles := s.profiles.set p values.clamped } := by
  intro hk
  have hprofiles := profiles_set hk.1 p values
  refine ⟨⟨hprofiles, hk.2⟩, fun hh => ⟨hh, fun hl t => ?_⟩⟩
  have hprofile : State.prof { s with profiles := s.profiles.set p values.clamped } t
      = if (s.tun t).cfg.profile = p then values.clamped else s.prof t := by
    change (s.profiles.set p values.clamped)[(s.tun t).cfg.profile] = _
    simp only [Fin.getElem_fin, Vector.getElem_set, Fin.ext_iff, eq_comm]
    rfl
  change (s.tun t).WithinLimits _
  rw [hprofile]
  split
  next hnamed => exact withinLimits_of_disabled (clamped_inRange values) (hk.2 t) (hh t) (disabled_of_unnamed h hnamed) (hl t)
  next => exact hl t

/-- The fields of an entry stored: an enabled tunnel keeps its profile, and a disabled one is within the limits of any (R21). -/
theorem service_fieldsStored {t : TunnelId} {s : State} {w : TunnelWrite}
    (h : ¬ ((s.tun t).cfg.enabled = true ∧ TunnelWriteFixed w = true)) : Service s (s.setTun t (fieldsStored w (s.tun t))) := by
  by_cases henabled : (s.tun t).cfg.enabled = true
  · have hfixed : w.profile = none := by
      have := not_and.mp h henabled
      simp only [TunnelWriteFixed, Bool.or_eq_true, not_or, Option.isSome_iff_ne_none, not_not] at this
      exact this.1.1.1.1
    refine service_setTun_inert ?_ id id id
    simp [fieldsStored, TunnelConfig.store, hfixed]
  · have hdisabled : (s.tun t).cfg.enabled = false := by simpa using henabled
    intro hk
    have htun (t' : TunnelId) : (s.setTun t (fieldsStored w (s.tun t))).tun t' = if t' = t then fieldsStored w (s.tun t) else s.tun t' :=
      tun_setTun s t _ t'
    refine ⟨⟨hk.1, fun t' => ?_⟩, fun hh => ⟨fun t' => ?_, fun hl t' => ?_⟩⟩
    · rw [htun]
      split
      · exact hk.2 t
      · exact hk.2 t'
    · rw [htun]
      split
      · exact hh t
      · exact hh t'
    · have hprofile : InRange ((s.setTun t (fieldsStored w (s.tun t))).prof t') :=
        prof_inRange (s := s.setTun t (fieldsStored w (s.tun t))) hk.1 t'
      rw [htun]
      split
      · exact withinLimits_of_disabled (x := s.tun t) hprofile (hk.2 t) (hh t) hdisabled (hl t)
      next hother =>
        have hsame : (s.setTun t (fieldsStored w (s.tun t))).prof t' = s.prof t' := by
          simp only [State.prof, State.tun_setTun_ne _ _ hother, State.setTun_profiles]
        rw [hsame]
        exact hl t'

theorem service_writeSnoop (t : TunnelId) (v : Bool) (s : State) : Service s (writeSnoop t v s) := by
  have hsnoop : Service s (s.modTun t fun x => { x with cfg := { x.cfg with snoop := v } }) :=
    service_setTun_inert rfl id id id
  exact .ite (fun _ => hsnoop.trans (service_setShop t _ _)) fun _ => hsnoop

theorem service_writeEnabled (t : TunnelId) (v : Bool) (s : State) : Service s (writeEnabled t v s) := by
  refine .ite (fun _ => .refl s) fun hchange => .ite (fun hv => service_enableTunnel ?_) fun _ => service_disableTunnel t s
  exact Bool.eq_false_iff.mpr fun h => hchange (hv.trans h.symm)

theorem service_whenCarried {α : Type} {write : α → State → State} (h : ∀ v s, Service s (write v s)) (carried : Option α)
    (s : State) : Service s (whenCarried write carried s) := by
  cases carried with
  | some v => exact h v s
  | none => exact .refl s

theorem service_writeTunnel {t : TunnelId} {w : TunnelWrite} {s : State}
    (h : ¬ ((s.tun t).cfg.enabled = true ∧ TunnelWriteFixed w = true)) : Service s (writeTunnel t w s) := by
  rw [writeTunnel_eq]
  exact (((service_fieldsStored h).trans (service_whenCarried (service_writeSnoop t) _ _)).trans
    (service_whenCarried (service_writeEnabled t) _ _)).trans (service_settle t _)

/-! ### The commands -/

/-- The operation of a command keeps the tunnels in accord, whatever its context. -/
def ServiceOp (op : CmdOp) : Prop := ∀ ctx s, Service s (op ctx s).1

theorem serviceOp_inert {op : CmdOp} (h : ∀ ctx s, ((op ctx s).1).tunnels = s.tunnels ∧ ((op ctx s).1).profiles = s.profiles) :
    ServiceOp op := fun ctx s => service_of_same (h ctx s).1 (h ctx s).2

theorem serviceOp_setLabel (label : BitVec 16) : ServiceOp (opSetLabel label) := serviceOp_inert fun _ _ => by
  unfold opSetLabel
  split <;> exact ⟨rfl, rfl⟩

theorem serviceOp_setTransportKey (key : BitVec 256) : ServiceOp (opSetTransportKey key) := serviceOp_inert fun _ _ => by
  unfold opSetTransportKey
  split
  · exact ⟨rfl, rfl⟩
  · split <;> exact ⟨rfl, rfl⟩

theorem serviceOp_ackReset : ServiceOp opAckReset := serviceOp_inert fun _ s => by
  change (acknowledgeReset s).tunnels = _ ∧ (acknowledgeReset s).profiles = _
  unfold acknowledgeReset
  split
  · simp only []
    split <;> exact ⟨rfl, rfl⟩
  · exact ⟨rfl, rfl⟩

theorem serviceOp_setNotice (mode : Byte) (interval holdoff mask : BitVec 16) : ServiceOp (opSetNotice mode interval holdoff mask) :=
  serviceOp_inert fun _ _ => by
    unfold opSetNotice
    split <;> exact ⟨rfl, rfl⟩

theorem serviceOp_readFaults (n : Byte) : ServiceOp (opReadFaults n) := serviceOp_inert fun _ _ => by
  unfold opReadFaults
  split <;> exact ⟨rfl, rfl⟩

theorem serviceOp_writeInterval (entry : Byte) (separator : BitVec 16) (action : Byte) (base : BitVec 16) :
    ServiceOp (opWriteInterval entry separator action base) := serviceOp_inert fun _ _ => by
  unfold opWriteInterval
  split <;> exact ⟨rfl, rfl⟩

theorem serviceOp_readInterval (copy entry : Byte) : ServiceOp (opReadInterval copy entry) := serviceOp_inert fun _ _ => by
  unfold opReadInterval
  split <;> exact ⟨rfl, rfl⟩

theorem serviceOp_applyTables : ServiceOp opApplyTables := serviceOp_inert fun _ _ => by
  unfold opApplyTables
  split <;> exact ⟨rfl, rfl⟩

theorem serviceOp_setClassify (offset : Byte) (port statusType : BitVec 16) : ServiceOp (opSetClassify offset port statusType) :=
  serviceOp_inert fun _ _ => by
    unfold opSetClassify
    split <;> exact ⟨rfl, rfl⟩

theorem serviceOp_writeProfile (profile : Byte) (values : Profile) : ServiceOp (opWriteProfile profile values) := by
  intro ctx s
  unfold opWriteProfile
  split
  · exact .refl s
  · split
    · exact .refl s
    · rename_i hfree
      exact service_profile (not_not.mp hfree) values

theorem serviceOp_readProfile (profile : Byte) : ServiceOp (opReadProfile profile) := serviceOp_inert fun _ _ => by
  unfold opReadProfile
  split <;> exact ⟨rfl, rfl⟩

theorem serviceOp_readTunnel (tunnel : BitVec 16) : ServiceOp (opReadTunnel tunnel) := serviceOp_inert fun _ _ => by
  unfold opReadTunnel
  split <;> exact ⟨rfl, rfl⟩

theorem serviceOp_writeTunnel (w : TunnelWrite) : ServiceOp (opWriteTunnel w) := by
  intro ctx s
  unfold opWriteTunnel
  split
  · exact .refl s
  · split
    · exact .refl s
    · split
      · exact .refl s
      · dsimp only
        exact service_writeTunnel ‹_›

theorem serviceOp_installSecret (tunnel : BitVec 16) (block : Option Wrapping) : ServiceOp (opInstallSecret tunnel block) := by
  intro ctx s
  unfold opInstallSecret
  split
  · exact .refl s
  · split
    · exact .refl s
    · dsimp only
      exact service_installSecret _ _ s

theorem serviceOp_eraseGenerations (tunnel : BitVec 16) : ServiceOp (opEraseGenerations tunnel) := by
  intro ctx s
  unfold opEraseGenerations
  split
  · exact .refl s
  · dsimp only
    exact (service_eraseGenerations _ s).trans (service_settle _ _)

theorem serviceOp_eraseAll (tunnel : BitVec 16) : ServiceOp (opEraseAll tunnel) := by
  intro ctx s
  unfold opEraseAll
  split
  · exact .refl s
  · dsimp only
    exact (service_eraseAll _ s).trans (service_settle _ _)

theorem serviceOp_renewNow (tunnel : BitVec 16) : ServiceOp (opRenewNow tunnel) := by
  intro ctx s
  unfold opRenewNow
  split
  · exact .refl s
  · split
    · dsimp only
      exact ((service_wake _ s).trans (service_takeAsk (wake_dormant _ s))).trans (service_settle _ _)
    · exact .refl s

theorem serviceOp_setShopState (tunnel : BitVec 16) (shop : Byte) : ServiceOp (opSetShopState tunnel shop) := by
  intro ctx s
  unfold opSetShopState
  split
  · rename_i t new _ _
    have hsnoop : Service s (s.modTun t fun x => { x with cfg := { x.cfg with snoop := false } }) :=
      service_setTun_inert rfl id id id
    dsimp only
    exact (hsnoop.trans (service_setShop t new _)).trans (service_settle t _)
  · exact .refl s

theorem service_reseedTunnel {t : TunnelId} {s : State} (hon : (s.tun t).health.state ≠ .off) : Service s (reseedTunnel t s) := by
  unfold reseedTunnel
  split
  · exact service_releaseSilent hon 5
  · exact service_releaseDelay hon 5
  · exact service_toSeeding hon

theorem serviceOp_reseed (tunnel : BitVec 16) : ServiceOp (opReseed tunnel) := by
  intro ctx s
  unfold opReseed
  split
  · exact .refl s
  · split
    · exact .refl s
    · dsimp only
      exact (service_reseedTunnel ‹_›).trans (service_settle _ _)

theorem serviceOp_uplinkStart (uplink flags : Byte) : ServiceOp (opUplinkStart uplink flags) := by
  intro ctx s
  unfold opUplinkStart
  split
  · exact .refl s
  · rename_i u _
    dsimp only
    have hflags := service_modUplink u (fun x => { x with autoRestart := flags.getLsbD 0, discardOnError := flags.getLsbD 1 }) s
    refine (hflags.trans ?_).trans (service_serveAll _)
    exact .ite (fun _ => .refl _) fun _ => .ite (fun _ => service_modUplink u _ _) fun _ =>
      (service_modUplink u _ _).trans (service_post _ _ _ _)

theorem serviceOp_uplinkStop (uplink flags : Byte) : ServiceOp (opUplinkStop uplink flags) := by
  intro ctx s
  unfold opUplinkStop
  split
  · exact .refl s
  · rename_i u _
    dsimp only
    exact ((service_modUplink u _ s).trans (service_loseTx u _)).trans (service_modUplink u _ _)

/-! ### The reset levels -/

/-- Every entry changed alike. -/
theorem service_mapTunnels {f : Tunnel → Tunnel} {s : State} (hprofile : ∀ x, (f x).cfg.profile = x.cfg.profile)
    (h : ∀ p x, Serves p x (f x)) : Service s (mapTunnels f s) :=
  service_of_tunnels rfl fun t => by rw [mapTunnels_tun]; exact ⟨hprofile _, h _ _⟩

theorem serviceOp_resetLevel1 : ServiceOp opResetLevel1 := by
  intro ctx s
  change Service s (levelOne s)
  rw [levelOne_eq]
  have hcleared : Service s (mapTunnels countersCleared s) :=
    service_mapTunnels (f := countersCleared) (fun _ => rfl) fun _ _ _ hk => ⟨hk, fun hh => ⟨hh, id⟩⟩
  exact hcleared.trans (service_of_same rfl rfl)

theorem serviceOp_resetLevel2 : ServiceOp opResetLevel2 := by
  intro ctx s
  have hlevel : Service s (levelledTwo s) := service_of_tunnels rfl fun t => by
    rw [levelledTwo_tun]
    exact ⟨rfl, serves_levelTwo _ _ _ _⟩
  have hstart : Service s (levelTwo s) := levelTwo_eq s ▸ hlevel.trans (service_startDerivation _)
  exact hstart.trans (service_of_same rfl rfl)

theorem serviceOp_resetLevel3 : ServiceOp opResetLevel3 := serviceOp_inert fun _ _ => ⟨rfl, rfl⟩

theorem service_clearRest {t : TunnelId} {s : State} (hkey : (s.tun t).keyState = .unkeyed) : Service s (clearRest t s) := by
  refine .ite (fun hdormant => .given fun hk => ?_) fun _ => .refl s
  have hcur := (barren_of_bare (hk t) (by rw [hkey]; rfl)).cur
  obtain ⟨henabled, hclosed, -⟩ := (hk t).2.2.2.1 hdormant
  have hawake : Service s (s.setTun t (awake (s.tun t))) := service_setTun rfl (serves_awake hcur)
  refine .ite (fun _ => hawake.trans (service_armDormancy ?_ ?_ ?_)) fun _ => hawake
  · rw [State.tun_setTun_self]
    exact henabled
  · rw [State.tun_setTun_self]
    exact hclosed
  · rw [State.tun_setTun_self]
    rfl

theorem clearRest_dormant (t : TunnelId) (s : State) : ((clearRest t s).tun t).dormant = false := by
  unfold clearRest
  split
  · simp only []
    split
    · rw [armDormancy_eq, State.tun_setTun_self, State.modTun, State.tun_setTun_self]
      rfl
    · rw [State.modTun, State.tun_setTun_self]
  next h => simpa using h

theorem service_foldl {f : State → TunnelId → State} (h : ∀ s t, Service s (f s t)) (l : List TunnelId) (s : State) :
    Service s (l.foldl f s) := by
  induction l generalizing s with
  | nil => exact .refl s
  | cons t l ih => exact (h s t).trans (ih _)

theorem service_startAllInitialKeying (s : State) : Service s (startAllInitialKeying s) :=
  service_foldl (fun s t => .ite (fun h => (service_clearRest h.2).trans
    (service_startInitialKeying fun _ _ => clearRest_dormant t s)) fun _ => .refl s) _ s

theorem IsCommand.service {op : CmdOp} (h : IsCommand op) : ServiceOp op := by
  cases h with
  | refused st => exact serviceOp_inert fun _ _ => ⟨rfl, rfl⟩
  | identify => exact serviceOp_inert fun _ _ => ⟨rfl, rfl⟩
  | setLabel _ => exact serviceOp_setLabel _
  | readCounters => exact serviceOp_inert fun _ _ => ⟨rfl, rfl⟩
  | ackReset => exact serviceOp_ackReset
  | setNotice _ _ _ _ => exact serviceOp_setNotice _ _ _ _
  | setIndicator _ _ => exact serviceOp_inert fun _ _ => ⟨rfl, rfl⟩
  | readSummary => exact serviceOp_inert fun _ _ => ⟨rfl, rfl⟩
  | readFaults _ => exact serviceOp_readFaults _
  | writeInterval _ _ _ _ => exact serviceOp_writeInterval _ _ _ _
  | readInterval _ _ => exact serviceOp_readInterval _ _
  | writeGroups _ => exact serviceOp_inert fun _ _ => ⟨rfl, rfl⟩
  | applyTables => exact serviceOp_applyTables
  | writeProfile _ _ => exact serviceOp_writeProfile _ _
  | readProfile _ => exact serviceOp_readProfile _
  | writeTunnel _ => exact serviceOp_writeTunnel _
  | readTunnel _ => exact serviceOp_readTunnel _
  | installSecret _ _ => exact serviceOp_installSecret _ _
  | eraseGenerations _ => exact serviceOp_eraseGenerations _
  | eraseAll _ => exact serviceOp_eraseAll _
  | renewNow _ => exact serviceOp_renewNow _
  | setShopState _ _ => exact serviceOp_setShopState _ _
  | reseed _ => exact serviceOp_reseed _
  | setClassify _ _ _ => exact serviceOp_setClassify _ _ _
  | setJitter _ _ _ => exact serviceOp_inert fun _ _ => ⟨rfl, rfl⟩
  | setRetention _ _ => exact serviceOp_inert fun _ _ => ⟨rfl, rfl⟩
  | uplinkStart _ _ => exact serviceOp_uplinkStart _ _
  | uplinkStop _ _ => exact serviceOp_uplinkStop _ _
  | setTransportKey _ => exact serviceOp_setTransportKey _
  | resetLevel1 => exact serviceOp_resetLevel1
  | resetLevel2 => exact serviceOp_resetLevel2
  | resetLevel3 => exact serviceOp_resetLevel3

theorem service_takeCommand {op : CmdOp} (hop : ServiceOp op) (ctx : CmdCtx) (code : Byte) (s : State) :
    Service s (takeCommand ctx code op s) := by
  have hlearned : Service s (if ctx.broadcast then s else { s with station := some ctx.source }) :=
    .ite (fun _ => .refl s) fun _ => service_of_same rfl rfl
  refine .ite (fun _ => hlearned.trans (service_sendReply _ _ _ _ _ _)) fun _ =>
    .ite (fun _ => hlearned.trans (service_sendReply _ _ _ _ _ _)) fun _ => ?_
  have hdone := hlearned.trans (hop ctx _)
  split
  · rename_i s2 st payload heq
    rw [heq] at hdone
    exact hdone.trans (service_sendReply _ _ _ _ _ _)
  · rename_i s2 heq
    rw [heq] at hdone
    exact hdone

theorem service_commandRow {op : CmdOp} (hop : ServiceOp op) (h : CmdHeader) (code : Byte) (s : State) :
    Service s (commandRow h code op s) := by
  unfold commandRow
  split
  · exact service_takeCommand hop _ code s
  · exact (service_cascadeForward _ s).trans (service_takeCommand hop _ code _)

theorem service_executeFrame (f : EthFrame) (prov broadcast joined : Bool) (s : State) :
    Service s (executeFrame f prov broadcast joined s) :=
  .ite (fun _ => service_modCounters s _) fun _ => service_takeCommand (isCommand_commandOp _ _ _).service _ _ s

theorem service_takeManagementFrame (f : EthFrame) (prov : Bool) (s : State) : Service s (takeManagementFrame f prov s) :=
  .ite (fun _ => service_executeFrame f prov false false s) fun _ =>
    .ite (fun _ => (service_cascadeForward f s).trans (service_executeFrame f prov true _ _)) fun _ =>
      .ite (fun _ => service_cascadeForward f s) fun _ => service_post _ _ _ s

end Sys2Proof.Proofs
end

section

namespace Sys2Proof.Proofs

open Sys2Proof Sys2Proof.Machine

/-! ### The rows of the table -/

/-- A row of the table keeps the tunnels in accord. -/
def RowServes (c : Instr) : Prop := ∀ s, ∃ r, exec c s = .next r ∧ Service s r

theorem service_live {f : State → State} {s : State} (h : Service s (f s)) : Service s (s.live f) :=
  .ite (fun _ => .refl s) fun _ => h

theorem service_typeStage (f : EthFrame) (prov : Bool) (s : State) : Service s (typeStage f prov s) :=
  .ite (fun _ => service_takeManagementFrame f prov s) fun _ => .ite (fun _ => service_modCounters s _) fun _ =>
    .ite (fun _ => service_of_same rfl rfl) fun _ => service_modCounters s _

theorem service_officeFrameAt (t : TunnelId) (f : EthFrame) (s : State) : Service s (officeFrameAt t f s) :=
  ((service_snoop t f s).trans (service_tunnelChecks t f _)).trans (service_settle t _)

theorem service_applyEntry (i : EntryId) (key : Nat) (f : EthFrame) (s : State) : Service s (applyEntry i key f s) := by
  unfold applyEntry
  split
  · exact (service_modCounters s _).trans (service_post _ _ _ _)
  · simp only []
    split
    · exact service_officeFrameAt _ f s
    · exact (service_modCounters s _).trans (service_post _ _ _ _)

theorem service_classify (f : EthFrame) (s : State) : Service s (classify f s) := by
  unfold classify
  split
  · split
    · exact service_applyEntry _ _ f s
    · exact .refl s
  · exact service_modCounters s _

theorem rowServes_lookup : RowServes .lookupTakeFrame := by
  intro s
  refine ⟨_, rfl, service_live ?_⟩
  split
  · rename_i f rest _
    have htake : Service s { s with holding := rest } := service_of_same rfl rfl
    exact .ite (fun _ => .refl s) fun _ => htake.trans (service_classify f _)
  · exact .refl s

theorem rowServes_inbound (u : UplinkId) : RowServes (.inboundTunnelFrame u) := by
  intro s
  refine ⟨_, rfl, service_live ?_⟩
  split
  · exact (service_modUplink u _ s).trans (service_takeDelivered _ _)
  · exact .refl s

theorem service_receiveUp (u : UplinkId) (f : CarrierFrame) (fcsOk : Bool) (s : State) : Service s (receiveUp u f fcsOk s) := by
  have hcount := service_modUplink u (fun x => { x with rxError := satInc x.rxError, rxErrors := x.rxErrors + 1 }) s
  exact .ite (fun _ => service_modUplink u _ s) fun _ => .ite (fun _ => hcount.trans (service_enterErrored u _ _)) fun _ => hcount

theorem service_receiveErrored (u : UplinkId) (f : CarrierFrame) (fcsOk : Bool) (s : State) :
    Service s (receiveErrored u f fcsOk s) :=
  .ite (fun _ => ((service_autoReturn u s).trans (service_modUplink u _ _)).trans (service_serveAll _)) fun _ => .refl s

theorem rowServes_receive (u : UplinkId) (f : CarrierFrame) (fcsOk : Bool) (sub : Fin 100) :
    RowServes (.uplinkFrameReceive u f fcsOk sub) := by
  intro s
  refine ⟨_, rfl, service_live ?_⟩
  have hclock : Service s (s.clockAt sub) := service_of_same rfl rfl
  dsimp only
  split
  · exact hclock.trans (service_receiveUp u f fcsOk _)
  · exact hclock.trans (service_receiveErrored u f fcsOk _)
  · exact hclock

theorem service_carrierLost (u : UplinkId) (s : State) : Service s (carrierLost u s) := by
  unfold carrierLost
  split
  · exact service_enterErrored u _ s
  · exact service_modUplink u _ s
  · exact .refl s

theorem service_carrierReturned (u : UplinkId) (s : State) : Service s (carrierReturned u s) :=
  .ite (fun _ => (service_autoReturn u s).trans (service_serveAll _)) fun _ => .refl s

theorem service_afterDerived (owner : Option TunnelId) (s : State) : Service s (afterDerived owner s) := by
  unfold afterDerived
  split
  · exact service_startDerivation s
  · exact (service_startDerivation s).trans (service_settle _ _)

theorem rowServes_derivationComplete (sub : Fin 100) : RowServes (.derivationComplete sub) := by
  intro s
  refine ⟨_, rfl, service_live ?_⟩
  have hfreed : Service s (unitFreed sub s) := service_of_same rfl rfl
  split
  · exact .refl s
  · exact (hfreed.trans (service_takeDerived _ _)).trans (service_afterDerived _ _)

theorem rowServes_responseExpiry (t : TunnelId) : RowServes (.responseExpiry t) := by
  intro s
  refine ⟨_, rfl, service_live ?_⟩
  split
  · rename_i target hkey
    refine .ite (fun _ => Service.trans (.ite (fun hfew => service_further hkey hfew) fun _ => service_failExchange hkey)
      (service_settle t _)) fun _ => .refl s
  · exact .refl s

theorem rowServes_graceExpiry (t : TunnelId) : RowServes (.graceExpiry t) := by
  intro s
  refine ⟨_, rfl, service_live ?_⟩
  split
  · refine .ite (fun _ => Service.trans ?_ (service_postTunnel _ t _ _)) fun _ => .refl s
    exact service_setTun rfl (serves_unprevious _ _)
  · exact .refl s

theorem service_intervalEnd (s : State) : Service s (allTunnels.foldl dueTest
    { s with intervalEnd := false, tunnels := vecMap (Tunnel.endInterval s.profiles) s.tunnels }) := by
  have hmap : Service s (mapTunnels (Tunnel.endInterval s.profiles) s) :=
    service_mapTunnels (fun _ => rfl) fun _ _ _ hk => ⟨hk, fun hh => ⟨hh, id⟩⟩
  have hflag : Service (mapTunnels (Tunnel.endInterval s.profiles) s)
      { s with intervalEnd := false, tunnels := vecMap (Tunnel.endInterval s.profiles) s.tunnels } := service_of_same rfl rfl
  exact (hmap.trans hflag).trans (service_foldl service_dueTest _ _)

theorem isSome_of_reached {s : State} {e : Option Tick} (h : s.reached e = true) : e.isSome = true := by
  cases e with
  | none => exact absurd h Bool.false_ne_true
  | some _ => rfl

theorem service_takeDormancyExpiry {t : TunnelId} {s : State} (h : (s.tun t).dormancyExpiry.isSome = true) :
    Service s (takeDormancyExpiry t s) := by
  refine .ite (fun hrest => ?_) fun _ => ?_
  · obtain ⟨hkey, hqueue⟩ := (mayRest_iff _).mp hrest
    exact service_setTun (by rw [enterDormant_profile]) (serves_enterDormant hkey hqueue (.inl h) _)
  · exact service_setTun_inert rfl (fun ⟨contexts, numbers, service, sleep, timer⟩ =>
      ⟨contexts, numbers, service, sleep, fun _ => timer (.inl h)⟩) id id

theorem service_sendArmed (s : State) : Service s (sendNotice (armNotice s)) := by
  have harm : Service s (armNotice s) := service_of_same rfl rfl
  exact harm.trans (service_sendNotice _)

theorem rowServes_reportExpiry : RowServes .reportExpiry := by
  intro s
  refine ⟨_, rfl, service_live ?_⟩
  refine .ite (fun _ => ?_) fun _ => .refl s
  split
  · exact (service_sendNotice s).trans (service_of_same rfl rfl)
  · refine .ite (fun _ => ?_) fun _ => service_of_same rfl rfl
    split
    · exact service_sendArmed s
    · exact service_of_same rfl rfl

theorem service_endHoldoff (s : State) : Service s (endHoldoff s) := by
  have hended : Service s { s with holdoffExpiry := none, noticePending := false } := service_of_same rfl rfl
  exact .ite (fun _ => hended.trans (service_sendArmed _)) fun _ => hended

theorem service_swapGroups (s : State) : Service s (swapGroups s) :=
  service_of_tunnels rfl fun t => by
    rw [swapGroups_tun]
    exact ⟨rfl, fun _ hk => ⟨hk, fun hh => ⟨hh, id⟩⟩⟩

theorem rowServes_groupSwap : RowServes .groupSwap := by
  intro s
  refine ⟨_, rfl, service_live ?_⟩
  dsimp only
  split
  · rename_i src tag copied _
    have hdone : Service (swapGroups s) { swapGroups s with progress := some (.applyTables src tag copied true) } :=
      service_of_same rfl rfl
    exact ((service_swapGroups s).trans hdone).trans (service_serveAll _)
  · exact .refl s

theorem rowServes_applyComplete : RowServes .applyTablesComplete := by
  intro s
  refine ⟨_, rfl, service_live ?_⟩
  have hdone : Service s { s with paused := false, progress := none } := service_of_same rfl rfl
  split
  · exact hdone.trans (service_sendReply _ _ _ _ _ _)
  · exact .refl s

theorem rowServes_tableCopy : RowServes .intervalTableCopy := by
  intro s
  refine ⟨_, rfl, service_live ?_⟩
  split
  · exact service_of_same rfl rfl
  · exact .refl s

theorem rowServes_officeTxStart : RowServes .officeTxStart := by
  intro s
  refine ⟨_, rfl, service_live ?_⟩
  split
  · exact service_of_same rfl rfl
  · exact .refl s

theorem service_progress (s : State) (p : Option Progress) : Service s { s with progress := p } := service_of_same rfl rfl

theorem rowServes_levelTwoComplete : RowServes .resetLevel2Complete := by
  intro s
  refine ⟨_, rfl, service_live ?_⟩
  have hdone : Service s { startAllInitialKeying s with progress := none } :=
    (service_startAllInitialKeying s).trans (service_progress _ none)
  dsimp only
  split
  · exact (hdone.trans (service_sendReply _ _ _ _ _ _)).trans (service_serveAll _)
  · exact .refl s

theorem service_pinReset (straps : BitVec 6) (s : State) : Service s (pinReset straps s) := by
  have h := pinReset_atReset straps s
  exact fun _ => ⟨h.keyingOk, fun _ => ⟨h.healthOk, fun _ => h.limitsOk⟩⟩

theorem rowServes_levelThree (straps : BitVec 6) : RowServes (.resetLevel3Perform straps) := by
  intro s
  refine ⟨_, rfl, service_live ?_⟩
  split
  · exact .ite (fun _ => .refl s) fun _ => (service_pinReset straps s).trans (service_sendReply _ _ _ _ _ _)
  · exact .refl s

/-- Every row of the table keeps the tunnels in accord. -/
theorem exec_serves (c : Instr) : RowServes c := by
  intro s
  cases hwire : c.wire with
  | some w =>
    obtain ⟨h, code, pl⟩ := w
    obtain ⟨op, hop, hrow⟩ := exec_isCommand hwire
    exact ⟨_, hrow s, service_live (service_commandRow hop.service h code s)⟩
  | none =>
    cases c with
    | officeFrameArrival a =>
      exact ⟨_, rfl, service_live (.ite (fun _ => service_typeStage a.frame a.prov s) fun _ => service_modCounters s _)⟩
    | lookupTakeFrame => exact rowServes_lookup s
    | uplinkFrameReceive u f fcsOk sub => exact rowServes_receive u f fcsOk sub s
    | carrierLoss u => exact ⟨_, rfl, .ite (fun _ => (service_modUplink u _ s).trans (service_live (service_carrierLost u _)))
        fun _ => service_modUplink u _ s⟩
    | carrierReturn u => exact ⟨_, rfl, .ite (fun _ => service_modUplink u _ s)
        fun _ => (service_modUplink u _ s).trans (service_live (service_carrierReturned u _))⟩
    | inboundTunnelFrame u => exact rowServes_inbound u s
    | derivationStart => exact ⟨_, rfl, service_live (service_startDerivation s)⟩
    | derivationComplete sub => exact rowServes_derivationComplete sub s
    | responseExpiry t => exact rowServes_responseExpiry t s
    | retryHoldoffExpiry t =>
      exact ⟨_, rfl, service_live (.ite (fun _ => service_setTun rfl (serves_holdoffOver _ _)) fun _ => .refl s)⟩
    | jitterDelayExpiry t => exact ⟨_, rfl, service_live (.ite (fun h => service_endJitterDelay h.1) fun _ => .refl s)⟩
    | graceExpiry t => exact rowServes_graceExpiry t s
    | ageIncrement t => exact ⟨_, rfl, service_live (.ite (fun _ => service_setTun rfl (serves_older _ _)) fun _ => .refl s)⟩
    | rateIntervalEnd => exact ⟨_, rfl, service_live (.ite (fun _ => service_intervalEnd s) fun _ => .refl s)⟩
    | probeExpiry t sub =>
      have hclock : Service s (s.clockAt sub) := service_of_same rfl rfl
      exact ⟨_, rfl, service_live (.ite (fun h => hclock.trans (service_takeProbeExpiry (s := s.clockAt sub) h.1)) fun _ => .refl s)⟩
    | dormancyExpiry t =>
      exact ⟨_, rfl, service_live (.ite (fun h => service_takeDormancyExpiry (isSome_of_reached h)) fun _ => .refl s)⟩
    | dormantEntry t => exact ⟨_, rfl, service_live (service_enterIfWaiting t s)⟩
    | grant g => exact ⟨_, rfl, service_live (service_grantOne g s)⟩
    | uplinkTxComplete u => exact ⟨_, rfl, service_live (.ite (fun _ => (service_modUplink u _ s).trans (service_serveAll _)) fun _ => .refl s)⟩
    | groupDiscard g => exact ⟨_, rfl, service_live (service_discardOne g s)⟩
    | officeTxStart => exact rowServes_officeTxStart s
    | officeTxComplete => exact ⟨_, rfl, service_live (service_of_same rfl rfl)⟩
    | cascadeTxStart => exact ⟨_, rfl, service_live (.ite (fun _ => service_of_same rfl rfl) fun _ => .refl s)⟩
    | cascadeTxComplete => exact ⟨_, rfl, service_live (.ite (fun _ => service_of_same rfl rfl) fun _ => .refl s)⟩
    | cascadeLinkDown =>
      have hdown : Service s { s with cascadeUp := false } := service_of_same rfl rfl
      exact ⟨_, rfl, hdown.trans (service_live (service_of_same rfl rfl))⟩
    | cascadeLinkUp => exact ⟨_, rfl, service_of_same rfl rfl⟩
    | cascadeFrameReceive f fcsOk => exact ⟨_, rfl, service_live (.ite (fun _ => .ite (fun _ => service_offerReserved .cascade f s)
        fun _ => service_modCounters s _) fun _ => .refl s)⟩
    | reportExpiry => exact rowServes_reportExpiry s
    | noticeHoldoffExpiry => exact ⟨_, rfl, service_live (.ite (fun _ => service_endHoldoff s) fun _ => .refl s)⟩
    | intervalTableCopy => exact rowServes_tableCopy s
    | groupSwap => exact rowServes_groupSwap s
    | applyTablesComplete => exact rowServes_applyComplete s
    | resetLevel2Complete => exact rowServes_levelTwoComplete s
    | resetLevel3Perform straps => exact rowServes_levelThree straps s
    | pinResetAssert => exact ⟨_, rfl, service_of_same rfl rfl⟩
    | pinResetRelease straps => exact ⟨_, rfl, .ite (fun _ => service_pinReset straps s) fun _ => .refl s⟩
    | tick => exact ⟨_, rfl, service_live (service_of_same rfl rfl)⟩
    | _ => simp [Instr.wire] at hwire

/-- A step keeps the tunnels in accord, as every row of the table does. -/
theorem step_serves {s r : State} (h : step s = .next r) : Service s r := by
  unfold step at h
  split at h
  · obtain rfl := Host.Outcome.next.inj h
    exact .refl s
  · rename_i c rest _
    obtain ⟨r', hrow, hserves⟩ := exec_serves c { s with pending := rest }
    obtain rfl := Host.Outcome.next.inj (hrow.symm.trans h)
    exact hserves

/-- Settles O9. -/
theorem stepsKeepTheKeying : Obligations.StepsKeepTheKeying := fun _ _ hk hstep => (step_serves hstep hk).1

/-- Settles O12. -/
theorem stepsKeepTheHealth : Obligations.StepsKeepTheHealth := fun _ _ hk hh hstep => ((step_serves hstep hk).2 hh).1

/-- Settles O14. -/
theorem stepsKeepTheLimits : Obligations.StepsKeepTheLimits :=
  fun _ _ hk hh hl hstep => ((step_serves hstep hk).2 hh).2 hl

end Sys2Proof.Proofs
end

section

namespace Sys2Proof.Proofs

open Sys2Proof Sys2Proof.Machine

/-! ### UPLINK (R94, R95, R104) -/

theorem uplinkArg_eq_some {b : Byte} {u : UplinkId} (h : b.toNat = u.val) : uplinkArg b = some u := by
  rw [uplinkArg, dif_pos (by omega)]
  exact congrArg some (Fin.ext h)

theorem uplinkArg_eq_none {b : Byte} (h : 3 < b.toNat) : uplinkArg b = none := dif_neg (by omega)

theorem takeHead_uplink (g : UplinkId) (t : TunnelId) (rest : List TunnelId) (left : List CarrierFrame) (s : State) (u : UplinkId) :
    (takeHead g t rest left s).uplink u = s.uplink u := by
  rw [takeHead_eq]
  rfl

/-- A grant changes nothing of an uplink but its transmission (R103). -/
theorem grantOne_status (g : UplinkId) (s : State) (v : UplinkId) : ((grantOne g s).uplink v).statusBytes = (s.uplink v).statusBytes := by
  unfold grantOne
  split
  · rename_i t rest u _ _
    split
    · rename_i f left _
      change (((takeHead g t rest left s).setUplink u (transmitting f ((takeHead g t rest left s).uplink u))).uplink v).statusBytes = _
      rw [State.uplink_setUplink]
      split
      next hv =>
        rw [takeHead_uplink, hv]
        rfl
      next => rw [takeHead_uplink]
    · rfl
  · rfl

theorem serveAll_status (s : State) (v : UplinkId) : ((serveAll s).uplink v).statusBytes = (s.uplink v).statusBytes := by
  simp only [serveAll, serve, grantOne_status]

/-- The uplink with the flags that an UPLINK command carries (R94). -/
def flagged (flags : Byte) (x : Uplink) : Uplink := { x with autoRestart := flags.getLsbD 0, discardOnError := flags.getLsbD 1 }

theorem exec_uplinkStart {h : CmdHeader} {u : UplinkId} {b flags : Byte} {s r : State} {x : Uplink} {bytes : List Byte} (ht : Taken h s)
    (hb : b.toNat = u.val)
    (hstart : startUplink u ((s.learned h).setUplink u (flagged flags (s.uplink u))) = r) (hx : r.uplink u = x)
    (hbytes : x.statusBytes = bytes) :
    exec (.uplinkStart h b flags) s = .next ((serveAll r).answered h 0x19 .ok bytes) := by
  refine exec_answered rfl ht ?_
  simp only [opUplinkStart, uplinkArg_eq_some hb]
  change (serveAll (startUplink u ((s.learned h).setUplink u (flagged flags (s.uplink u)))), Answer.now .ok
    ((serveAll (startUplink u ((s.learned h).setUplink u (flagged flags (s.uplink u))))).uplink u).statusBytes) = _
  rw [hstart, serveAll_status, hx, hbytes]

/-- The uplink with a frame in transmission lost and counted (R104). -/
def lostTx (x : Uplink) : Uplink :=
  { x with tx := none, txLost := if x.tx.isSome then satInc x.txLost else x.txLost }

theorem loseTx_eq (u : UplinkId) (s : State) : loseTx u s = s.setUplink u (lostTx (s.uplink u)) := by
  unfold loseTx
  split
  next h => simp only [State.modUplink, lostTx, if_pos h]
  next h =>
    have hidle : (s.uplink u).tx = none := by simpa using h
    have hsame : lostTx (s.uplink u) = s.uplink u := by
      rw [lostTx, if_neg h, ← hidle]
    rw [hsame, State.setUplink_uplink]

/-- The uplink after a stop request (R94). -/
def stoppedUplink (x : Uplink) : Uplink := { lostTx x with link := .stopped, cause := .none, erroredSince := none }

theorem stopUplink_eq (u : UplinkId) (s : State) : stopUplink u s = s.setUplink u (stoppedUplink (s.uplink u)) := by
  rw [stopUplink, loseTx_eq, State.modUplink, State.uplink_setUplink_self, State.setUplink_setUplink, stoppedUplink]

theorem exec_uplinkStop {h : CmdHeader} {u : UplinkId} {b flags : Byte} {s r : State} {x : Uplink} {bytes : List Byte} (ht : Taken h s)
    (hb : b.toNat = u.val)
    (hstop : stopUplink u ((s.learned h).setUplink u (flagged flags (s.uplink u))) = r) (hx : r.uplink u = x)
    (hbytes : x.statusBytes = bytes) :
    exec (.uplinkStop h b flags) s = .next (r.answered h 0x19 .ok bytes) := by
  refine exec_answered rfl ht ?_
  simp only [opUplinkStop, uplinkArg_eq_some hb]
  change (stopUplink u ((s.learned h).setUplink u (flagged flags (s.uplink u))), Answer.now .ok
    ((stopUplink u ((s.learned h).setUplink u (flagged flags (s.uplink u)))).uplink u).statusBytes) = _
  rw [hstop, hx, hbytes]

/-- Settles O58: each request by the link state and the carrier. -/
theorem uplinkCommands : Obligations.UplinkCommands := by
  intro h u b flags s ht hb q x reply
  have hentry : (q.setUplink u x).uplink u = x := State.uplink_setUplink_self _ _ _
  refine ⟨fun hup => ?_, fun hdown hcarrier => ?_, fun hdown hcarrier => ?_, ?_, fun c hc => ⟨?_, ?_⟩⟩
  · have hstart : startUplink u (q.setUplink u x) = q.setUplink u x := if_pos (by rw [hentry]; exact hup)
    have hbytes : x.statusBytes = reply 1 := by
      change num8 (s.uplink u).link.code ++ _ ++ _ = _
      rw [hup]
      rfl
    exact exec_uplinkStart ht hb hstart hentry hbytes
  · have hstart : startUplink u (q.setUplink u x)
        = q.setUplink u { x with link := .up, cause := .none, erroredSince := none, rxErrors := 0 } := by
      rw [startUplink, hentry, if_neg (show ¬ x.link = .up from hdown), if_pos (show x.carrier = true from hcarrier), State.modUplink,
        hentry, State.setUplink_setUplink]
    exact exec_uplinkStart ht hb hstart (State.uplink_setUplink_self _ _ _) rfl
  · have hstart : startUplink u (q.setUplink u x) = post .uplinkDown (some u.val) 1 (q.setUplink u { x with
        link := .errored, cause := .carrierLoss, erroredSince := some s.tick }) := by
      rw [startUplink, hentry, if_neg (show ¬ x.link = .up from hdown), if_neg (by simp [show x.carrier = false from hcarrier]),
        State.modUplink, hentry, State.setUplink_setUplink]
      rfl
    exact exec_uplinkStart ht hb hstart (by rw [post_uplink, State.uplink_setUplink_self]) rfl
  · have hstop : stopUplink u (q.setUplink u x) = q.setUplink u (stoppedUplink x) := by
      rw [stopUplink_eq, hentry, State.setUplink_setUplink]
    exact exec_uplinkStop ht hb hstop (State.uplink_setUplink_self _ _ _) rfl
  · exact exec_answered rfl ht (by simp only [opUplinkStart, uplinkArg_eq_none hc, q])
  · exact exec_answered rfl ht (by simp only [opUplinkStop, uplinkArg_eq_none hc, q])

end Sys2Proof.Proofs
end

section

namespace Sys2Proof.Proofs

open Sys2Proof Sys2Proof.Machine

/-! ### INSTALL_SECRET and ERASE_KEYS (R57, R61, R78, R79, R82) -/

theorem isGeneration_iff (k : DerivationKind) : k.isGeneration = true ↔ k ≠ .bootstrap := by
  cases k <;> simp [DerivationKind.isGeneration]

theorem abortGeneration_queue (t : TunnelId) (s : State) :
    (abortGeneration t s).kduQueue = s.kduQueue.filter fun e => decide ¬ (e.tunnel = t ∧ e.kind ≠ .bootstrap) := by
  refine List.filter_congr fun e _ => ?_
  rw [Bool.eq_iff_iff]
  simp [← isGeneration_iff]

theorem abortGeneration_flight (t : TunnelId) (s : State) : (abortGeneration t s).kduFlight
    = s.kduFlight.map fun d => if d.owner = some t ∧ d.kind ≠ .bootstrap then { d with owner := none } else d := by
  simp only [abortGeneration, isGeneration_iff]

/-- An abort of every derivation of a tunnel takes what an abort of its generation's would have taken (R61). -/
theorem abortDerivation_queue_after (t : TunnelId) (s : State) :
    (abortDerivation t (abortGeneration t s)).kduQueue = (abortDerivation t s).kduQueue := by
  simp only [abortDerivation, abortGeneration, List.filter_filter]
  refine List.filter_congr fun e _ => ?_
  by_cases h : e.tunnel = t <;> simp [h]

theorem abortDerivation_flight_after (t : TunnelId) (s : State) :
    (abortDerivation t (abortGeneration t s)).kduFlight = (abortDerivation t s).kduFlight := by
  simp only [abortDerivation, abortGeneration, Option.map_map]
  refine congrArg (Option.map · s.kduFlight) (funext fun d => ?_)
  by_cases h : d.owner = some t
  · by_cases hk : d.kind.isGeneration = true <;> simp [h, hk]
  · simp [h]

theorem list_of_flushed {t : TunnelId} {s r : State} (h : r.waiting = (flush t s).waiting) (g : UplinkId) :
    r.list g = if g = (s.tun t).cfg.activeGroup then (s.list g).filter fun u => decide (u ≠ t) else s.list g := by
  rw [← flush_list]
  simp only [State.list, h]

theorem unwrap_of_made (k : BitVec 256) (b : BitVec 16) (content : BitVec 320) :
    unwrap (some k) b (some { key := k, tunnel := b, content := content })
      = some { secret := content.extractLsb' 64 256, epoch := content.extractLsb' 48 16 } := if_pos ⟨rfl, rfl⟩

theorem unwrap_of_foreign {key : Option (BitVec 256)} {b : BitVec 16} {block : Option Wrapping}
    (h : ∀ w ∈ block, key ≠ some w.key ∨ w.tunnel ≠ b) : unwrap key b block = none := by
  cases key with
  | none => rfl
  | some k =>
    cases block with
    | none => rfl
    | some w =>
      refine if_neg fun ⟨hk, hb⟩ => ?_
      rcases h w rfl with hne | hne
      · exact hne (congrArg some hk.symm)
      · exact hne hb

theorem exec_installSecret {h : CmdHeader} {t : TunnelId} {b : BitVec 16} {s : State} {block : Option Wrapping} {m : MasterSecret}
    (ht : Taken h s) (hb : b.toNat = t.val) (hm : unwrap s.transportKey b block = some m) :
    exec (.installSecret h b block) s = .next ((installSecret t m (s.learned h)).answered h 0x11 .ok (bytes16 m.epoch)) :=
  exec_answered rfl ht (by simp only [opInstallSecret, tunnelArg_eq_some hb, show (s.learned h).transportKey = s.transportKey from rfl, hm])

theorem exec_installSecret_foreign {h : CmdHeader} {t : TunnelId} {b : BitVec 16} {s : State} {block : Option Wrapping}
    (ht : Taken h s) (hb : b.toNat = t.val) (hm : unwrap s.transportKey b block = none) :
    exec (.installSecret h b block) s = .next ((s.learned h).answered h 0x11 .wrapFail []) :=
  exec_answered rfl ht (by simp only [opInstallSecret, tunnelArg_eq_some hb, show (s.learned h).transportKey = s.transportKey from rfl, hm])

theorem exec_eraseKeysGenerations {h : CmdHeader} {t : TunnelId} {b : BitVec 16} {s : State} (ht : Taken h s) (hb : b.toNat = t.val) :
    exec (.eraseKeysGenerations h b) s = .next ((settle t (eraseGenerations t (s.learned h))).answered h 0x12 .ok []) :=
  exec_answered rfl ht (by simp only [opEraseGenerations, tunnelArg_eq_some hb])

theorem exec_eraseKeysAll {h : CmdHeader} {t : TunnelId} {b : BitVec 16} {s : State} (ht : Taken h s) (hb : b.toNat = t.val) :
    exec (.eraseKeysAll h b) s = .next ((settle t (eraseAll t (s.learned h))).answered h 0x12 .ok []) :=
  exec_answered rfl ht (by simp only [opEraseAll, tunnelArg_eq_some hb])

/-- The state `r` with the tunnels, the lists and the derivation unit of `s`. -/
def keysFrame (s r : State) : State :=
  { r with tunnels := s.tunnels, waiting := s.waiting, kduQueue := s.kduQueue, kduFlight := s.kduFlight }

theorem keysFrame_self (s : State) : keysFrame s s = s := rfl

theorem keysFrame_setTun (s r : State) (t : TunnelId) (x : Tunnel) : keysFrame s (r.setTun t x) = keysFrame s r := rfl

theorem keysFrame_flush (s r : State) (t : TunnelId) : keysFrame s (flush t r) = keysFrame s r := rfl

theorem keysFrame_abortDerivation (s r : State) (t : TunnelId) : keysFrame s (abortDerivation t r) = keysFrame s r := rfl

theorem keysFrame_abortGeneration (s r : State) (t : TunnelId) : keysFrame s (abortGeneration t r) = keysFrame s r := rfl

theorem keysFrame_queueDerivation (s r : State) (t : TunnelId) (k : DerivationKind) :
    keysFrame s (queueDerivation t k r) = keysFrame s r := rfl

/-- What every one of these commands leaves: the other tunnels, the order of the lists, and everything outside the tunnels, the
lists and the derivation unit. -/
structure KeysOf (t : TunnelId) (s r : State) : Prop where
  tun (t' : TunnelId) : t' ≠ t → r.tun t' = s.tun t'
  list (g : UplinkId) :
    r.list g = if g = (s.tun t).cfg.activeGroup then (s.list g).filter fun u => decide (u ≠ t) else s.list g
  rest : s = keysFrame s r

theorem keysOf_installSecret (t : TunnelId) (m : MasterSecret) (s : State) : KeysOf t s (installSecret t m s) where
  tun := (installSecret_acts t m s).others
  list := by
    rw [installSecret_eq]
    exact list_of_flushed (s := s) rfl
  rest := by
    rw [installSecret_eq, keysFrame_queueDerivation, keysFrame_setTun, keysFrame_flush, keysFrame_abortDerivation, keysFrame_self]

theorem eraseGenerations_list (t : TunnelId) (s : State) (g : UplinkId) : (eraseGenerations t s).list g
    = if g = (s.tun t).cfg.activeGroup then (s.list g).filter fun u => decide (u ≠ t) else s.list g := by
  by_cases h : (s.tun t).keyState = .noSecret ∨ (s.tun t).keyState = .bootstrap
  · rw [eraseGenerations_of_bare h]
    exact list_of_flushed (s := s) rfl g
  · rw [eraseGenerations_of_keys h]
    exact list_of_flushed (s := s) rfl g

theorem eraseGenerations_rest (t : TunnelId) (s : State) : keysFrame s (eraseGenerations t s) = s := by
  by_cases h : (s.tun t).keyState = .noSecret ∨ (s.tun t).keyState = .bootstrap
  · rw [eraseGenerations_of_bare h, keysFrame_setTun, keysFrame_flush, keysFrame_self]
  · rw [eraseGenerations_of_keys h, keysFrame_setTun, keysFrame_flush, keysFrame_abortGeneration, keysFrame_self]

theorem keysOf_eraseGenerations (t : TunnelId) (s : State) : KeysOf t s (eraseGenerations t s) where
  tun := (eraseGenerations_acts t s).others
  list := eraseGenerations_list t s
  rest := (eraseGenerations_rest t s).symm

theorem keysOf_eraseAll (t : TunnelId) (s : State) : KeysOf t s (eraseAll t s) where
  tun := (eraseAll_acts t s).others
  list := eraseGenerations_list t s
  rest := by rw [eraseAll_eq, keysFrame_setTun, keysFrame_abortDerivation, eraseGenerations_rest]

theorem eraseAll_kdu (t : TunnelId) (s : State) : (eraseAll t s).kduQueue = (abortDerivation t s).kduQueue
    ∧ (eraseAll t s).kduFlight = (abortDerivation t s).kduFlight := by
  rw [eraseAll_eq]
  by_cases h : (s.tun t).keyState = .noSecret ∨ (s.tun t).keyState = .bootstrap
  · rw [eraseGenerations_of_bare h]
    exact ⟨rfl, rfl⟩
  · rw [eraseGenerations_of_keys h]
    exact ⟨abortDerivation_queue_after t s, abortDerivation_flight_after t s⟩

theorem eraseAll_tun (t : TunnelId) (s : State) :
    (eraseAll t s).tun t = secretErased ((eraseGenerations t s).tun t) := by
  rw [eraseAll_eq, State.tun_setTun_self]

/-! ### RENEW_NOW (R72, R144, R145) -/

theorem wokenTimer_eq (e : Tick) (x : Tunnel) : wokenTimer e x = { x with
    dormancyExpiry := if x.shop = .closed then some e else x.dormancyExpiry
    dormancyDue := if x.shop = .closed then false else x.dormancyDue } := by
  by_cases h : x.shop = .closed
  · simp only [wokenTimer, if_pos h, restArmed]
  · simp only [wokenTimer, if_neg h]

/-- The timer of a tunnel that is awake, by its shop's state. -/
theorem wokenTimer_of_awake (e : Tick) {x : Tunnel} {shop : ShopState} (hshop : x.shop = shop) (hawake : x.dormant = false) :
    wokenTimer e x = { x with
      dormant := false
      dormancyExpiry := if shop = .closed then some e else x.dormancyExpiry
      dormancyDue := if shop = .closed then false else x.dormancyDue } := by
  rw [wokenTimer_eq, ← hshop, ← hawake]

theorem exec_renewNow {h : CmdHeader} {t : TunnelId} {b : BitVec 16} {s r : State} {target : BitVec 8} (ht : Taken h s) (hb : b.toNat = t.val)
    (hable : (s.tun t).cfg.enabled = true ∧ ((s.tun t).keyState.renewable = true ∨ (s.tun t).keyState = .unkeyed))
    (hr : takeAsk t (wake t (s.learned h)) = r) (htarget : (s.tun t).nextTarget = target) :
    exec (.renewNow h b) s = .next ((settle t r).answered h 0x13 .ok [target]) :=
  exec_answered rfl ht (by
    have hcond : ((s.learned h).tun t).cfg.enabled = true
        ∧ (((s.learned h).tun t).keyState.renewable = true ∨ ((s.learned h).tun t).keyState = .unkeyed) := hable
    simp only [opRenewNow, tunnelArg_eq_some hb, if_pos hcond, renewNow, hr]
    rw [← htarget]
    rfl)

theorem exec_renewNow_unable {h : CmdHeader} {t : TunnelId} {b : BitVec 16} {s : State} (ht : Taken h s) (hb : b.toNat = t.val)
    (hunable : ¬ ((s.tun t).cfg.enabled = true ∧ ((s.tun t).keyState.renewable = true ∨ (s.tun t).keyState = .unkeyed))) :
    exec (.renewNow h b) s = .next ((s.learned h).answered h 0x13 .badState []) :=
  exec_answered rfl ht (by
    have hcond : ¬ (((s.learned h).tun t).cfg.enabled = true
        ∧ (((s.learned h).tun t).keyState.renewable = true ∨ ((s.learned h).tun t).keyState = .unkeyed)) := hunable
    simp only [opRenewNow, tunnelArg_eq_some hb, if_neg hcond])

theorem nextTarget_of_current {x : Tunnel} {c : CurGen} (h : x.cur = some c) : x.nextTarget = nextGeneration c.number := by
  simp only [Tunnel.nextTarget, h]

theorem nextTarget_of_none {x : Tunnel} (h : x.cur = none) : x.nextTarget = 1 := by
  simp only [Tunnel.nextTarget, h]

/-- A wake that keeps the keys, and the renewal that RENEW_NOW then starts (R145, R66). -/
theorem takeAsk_wake_of_keyed {t : TunnelId} {s : State} {c : CurGen} (hdormant : (s.tun t).dormant = true)
    (hcur : (s.tun t).cur = some c) (hrenew : (s.tun t).keyState.renewable = true) :
    takeAsk t (wake t s) = attempt t (nextGeneration c.number)
      (s.setTun t (renewalStart c (wokenTimer (dormancyTick s t) (wokenKeyed s.tick (s.tun t))))) := by
  have hwoken := wake_of_keyed hdormant (by simp [hcur])
  obtain ⟨-, hcur', hkey', -⟩ := wokenTimer_kept (dormancyTick s t) (wokenKeyed s.tick (s.tun t))
  have hself : ((wake t s).tun t) = wokenTimer (dormancyTick s t) (wokenKeyed s.tick (s.tun t)) := by
    rw [hwoken, State.tun_setTun_self]
  have hrenew' : ((wake t s).tun t).keyState.renewable = true := by
    rw [hself, hkey']
    exact hrenew
  rw [takeAsk_of_renewable hrenew', startRenewal_eq_attempt (by rw [hself, hcur']; exact hcur) hrenew', hself, hwoken, State.setTun_setTun]
  rfl

theorem Attempted.takes_no_ask {x y : Tunnel} (h : Attempted x y) {g : BitVec 8} (hkey : x.keyState = .offering g) :
    y.keyState.renewable = false ∧ y.keyState ≠ .unkeyed := by
  cases h with
  | unsent n => simp [hkey, KeyState.renewable]
  | offered n => simp [hkey, KeyState.renewable]
  | exhausted => exact ⟨rfl, nofun⟩

/-- A wake that starts initial keying leaves RENEW_NOW nothing more to start (R145). -/
theorem takeAsk_wake_of_unkeyed {t : TunnelId} {s : State} (hdormant : (s.tun t).dormant = true)
    (hcur : (s.tun t).cur = none) (henabled : (s.tun t).cfg.enabled = true) (hkey : (s.tun t).keyState = .unkeyed) :
    takeAsk t (wake t s) = (attempt t 1 (s.setTun t (keyingStart (awake (s.tun t))))).setTun t (wokenTimer (dormancyTick s t)
      ((attempt t 1 (s.setTun t (keyingStart (awake (s.tun t))))).tun t)) := by
  have hdone := (attempt_attempted t 1 (s.setTun t (keyingStart (awake (s.tun t))))).takes_no_ask (g := 1)
    (by rw [State.tun_setTun_self]; rfl)
  rw [wake_of_unkeyed hdormant hcur henabled hkey]
  refine takeAsk_idle ?_ ?_
  · rw [State.tun_setTun_self, (wokenTimer_kept _ _).2.2.1]
    exact hdone.1
  · rw [State.tun_setTun_self, (wokenTimer_kept _ _).2.2.1]
    exact hdone.2

theorem renewable_of_holding {k : KeyState} (h : k = .keyed ∨ k = .pending ∨ k = .held) : k.renewable = true := by
  rcases h with h | h | h <;> rw [h] <;> rfl

/-- Settles O56: the three key commands by the keying state, a dormant tunnel's renewal through its wake. -/
theorem keyCommands : Obligations.KeyCommands := by
  intro h t b s ht hb q x bare still others
  have hothers {r : State} (hr : KeysOf t q r) : others r := ⟨hr.tun, hr.list, hr.rest⟩
  refine ⟨fun k content hkey => ?_, fun block hblock => exec_installSecret_foreign ht hb (unwrap_of_foreign hblock), ?_, ?_,
    fun c henabled hawake hkey hcur => ?_, fun henabled hawake hkey hcur => ?_,
    fun henabled hdormant => ⟨fun c hkey hcur => ?_, fun hkey hcur => ?_⟩, fun hunable => exec_renewNow_unable ht hb ?_⟩
  · have hmade := unwrap_of_made k b content
    rw [← hkey] at hmade
    have hexec := exec_installSecret ht hb hmade
    refine ⟨_, hexec, ?_, ?_, ?_, hothers (keysOf_installSecret t _ q)⟩
    · rw [installSecret_eq]
      exact State.tun_setTun_self _ _ _
    · rw [installSecret_eq]
      rfl
    · rw [installSecret_eq]
      rfl
  · refine ⟨eraseGenerations t q, exec_eraseKeysGenerations ht hb, fun hsecret hboot => ?_, fun hbare => ?_, hothers (keysOf_eraseGenerations t q)⟩
    · rw [eraseGenerations_of_keys (s := q) (not_or.mpr ⟨hsecret, hboot⟩)]
      exact ⟨State.tun_setTun_self _ _ _, abortGeneration_queue t q, abortGeneration_flight t q⟩
    · rw [eraseGenerations_of_bare (s := q) hbare]
      exact ⟨State.tun_setTun_self _ _ _, rfl, rfl⟩
  · refine ⟨eraseAll t q, exec_eraseKeysAll ht hb, fun hsecret hboot => ?_, fun hbare => ?_, (eraseAll_kdu t q).1, (eraseAll_kdu t q).2,
      hothers (keysOf_eraseAll t q)⟩
    · rw [eraseAll_tun, eraseGenerations_tun, if_neg (show ¬ ((q.tun t).keyState = .noSecret ∨ (q.tun t).keyState = .bootstrap) from not_or.mpr ⟨hsecret, hboot⟩)]
      rfl
    · rw [eraseAll_tun, eraseGenerations_tun, if_pos (show (q.tun t).keyState = .noSecret ∨ (q.tun t).keyState = .bootstrap from hbare)]
      rfl
  · have hrenew := renewable_of_holding hkey
    refine exec_renewNow ht hb ⟨henabled, .inl hrenew⟩ ?_ (nextTarget_of_current hcur)
    rw [wake_awake t q hawake, takeAsk_of_renewable (s := q) hrenew, startRenewal_eq_attempt (s := q) hcur hrenew]
    rfl
  · refine exec_renewNow ht hb ⟨henabled, .inr hkey⟩ ?_ (nextTarget_of_none hcur)
    rw [wake_awake t q hawake, takeAsk_of_unkeyed (s := q) hkey, startInitialKeying_eq_attempt (s := q) henabled hkey]
    rfl
  · have hrenew := renewable_of_holding hkey
    refine exec_renewNow ht hb ⟨henabled, .inl hrenew⟩ ?_ (nextTarget_of_current hcur)
    rw [takeAsk_wake_of_keyed (s := q) hdormant hcur hrenew, wokenTimer_eq]
    rfl
  · refine exec_renewNow ht hb ⟨henabled, .inr hkey⟩ ?_ (nextTarget_of_none hcur)
    have hshop : ((attempt t 1 (q.setTun t (keyingStart (awake (q.tun t))))).tun t).shop = x.shop := by
      rw [attempt_shop, State.tun_setTun_self]
      rfl
    have hawake : ((attempt t 1 (q.setTun t (keyingStart (awake (q.tun t))))).tun t).dormant = false := by
      rw [attempt_dormant, State.tun_setTun_self]
      rfl
    rw [takeAsk_wake_of_unkeyed (s := q) hdormant hcur henabled hkey, wokenTimer_of_awake _ hshop hawake]
    rfl
  · rintro ⟨henabled, hable⟩
    rcases hunable with hoff | hkey | hkey | ⟨g, hkey | hkey⟩
    · exact absurd henabled (by rw [hoff]; nofun)
    all_goals rcases hable with hable | hable <;> rw [hkey] at hable <;> exact absurd hable (by nofun)

end Sys2Proof.Proofs
end

section

namespace Sys2Proof.Proofs

open Sys2Proof Sys2Proof.Machine

/-! ### The checks of WRITE_TUNNEL (R21, R176) -/

theorem isSome_dite_eq_false {β : Type} {n k : Nat} (f : n < k + 1 → β) :
    (if h : n < k + 1 then some (f h) else none).isSome = false ↔ k < n := by
  by_cases h : n < k + 1
  · simp [h]
    omega
  · simp [h]
    omega

theorem profileArg_refused (b : Byte) : (profileArg b).isSome = false ↔ 15 < b.toNat := isSome_dite_eq_false _

theorem tunnelArg_refused (b : BitVec 16) : (tunnelArg b).isSome = false ↔ 1023 < b.toNat := isSome_dite_eq_false _

theorem weightArg_refused (b : BitVec 16) : (weightArg b).isSome = false ↔ 8191 < b.toNat := isSome_dite_eq_false _

theorem uplinkArg_refused (b : Byte) : (uplinkArg b).isSome = false ↔ 3 < b.toNat := isSome_dite_eq_false _

theorem boolArg_refused : ∀ b : Byte, (boolArg b).isSome = false ↔ 1 < b.toNat := by decide

theorem roleArg_refused : ∀ b : Byte, (roleArg b).isSome = false ↔ 2 < b.toNat := by decide

theorem carriedOk_eq_false_iff {α β : Type} {arg : α → Option β} {P : α → Prop} (h : ∀ b, (arg b).isSome = false ↔ P b)
    (carried : Option α) : carriedOk arg carried = false ↔ ∃ b ∈ carried, P b := by
  cases carried with
  | none => simp [carriedOk]
  | some b => simp only [carriedOk, Option.all_some, h, Option.mem_def, Option.some.injEq, exists_eq_left']

theorem tunnelWriteOk_eq_false_iff (w : TunnelWrite) : TunnelWriteOk w = false ↔
    (∃ b ∈ w.enabled, 1 < b.toNat) ∨ (∃ b ∈ w.profile, 15 < b.toNat) ∨ (∃ b ∈ w.role, 2 < b.toNat)
      ∨ (∃ b ∈ w.reference, 1023 < b.toNat) ∨ (∃ b ∈ w.weight, 8191 < b.toNat) ∨ (∃ b ∈ w.shadowGroup, 3 < b.toNat)
      ∨ ∃ b ∈ w.snoop, 1 < b.toNat := by
  simp only [TunnelWriteOk, Bool.and_eq_false_iff, carriedOk_eq_false_iff boolArg_refused, carriedOk_eq_false_iff profileArg_refused,
    carriedOk_eq_false_iff roleArg_refused, carriedOk_eq_false_iff tunnelArg_refused, carriedOk_eq_false_iff weightArg_refused,
    carriedOk_eq_false_iff uplinkArg_refused, or_assoc]

theorem tunnelWriteFixed_iff (w : TunnelWrite) : TunnelWriteFixed w = true ↔
    w.profile ≠ none ∨ w.peer ≠ none ∨ w.role ≠ none ∨ w.reference ≠ none ∨ w.weight ≠ none := by
  simp only [TunnelWriteFixed, Bool.or_eq_true, Option.isSome_iff_ne_none, or_assoc]

/-! ### The fields that WRITE_TUNNEL stores (R21, R25) -/

/-- What a stored field reads as, where the carried value has passed its check: `f` reads the field, `g` the carried value. -/
theorem stored_field {α β γ : Type} {arg : α → Option β} {f : β → γ} {g : α → γ} (hval : ∀ b v, arg b = some v → f v = g b)
    {carried : Option α} (hok : carriedOk arg carried = true) (old : β) :
    f ((carried.bind arg).getD old) = (carried.map g).getD (f old) := by
  cases carried with
  | none => rfl
  | some b =>
    obtain ⟨v, hv⟩ := Option.isSome_iff_exists.mp (show (arg b).isSome = true from hok)
    simp only [Option.bind_some, hv, Option.getD_some, Option.map_some, hval b v hv]

theorem val_of_dite {n k : Nat} {v : Fin k} (h : (if h : n < k then some (⟨n, h⟩ : Fin k) else none) = some v) : v.val = n := by
  split at h
  · cases h
    rfl
  · cases h

/-- The health role of a role byte (R176). -/
def roleOf (b : Byte) : HealthRole := if b = 0 then .independent else if b = 1 then .reference else .follower

theorem eq_roleOf : ∀ (b : Byte) (r : HealthRole), roleArg b = some r → r = roleOf b := by
  have hall : ∀ b : Byte, (roleArg b).all fun r => decide (r = roleOf b) := by decide
  intro b r h
  have hb := hall b
  rw [h] at hb
  exact of_decide_eq_true hb

theorem boolArg_eq_some_iff : ∀ (b : Byte) (v : Bool), boolArg b = some v ↔ b = if v then 1 else 0 := by decide

theorem boolArg_of_accepted : ∀ b : Byte, (boolArg b).isSome = true → boolArg b = some (decide (b = 1)) := by decide

/-- The configuration with every carried field but enabled stored (R21). -/
def written (w : TunnelWrite) (c : TunnelConfig) : TunnelConfig :=
  { c.store w with snoop := (w.snoop.map fun b => decide (b = 1)).getD c.snoop }

/-- The tunnel entry with every carried field but enabled stored (R21). -/
def entryWritten (w : TunnelWrite) (x : Tunnel) : Tunnel := { x with cfg := written w x.cfg }

theorem entryWritten_of_no_snoop {w : TunnelWrite} (hsnoop : w.snoop = none) (x : Tunnel) : entryWritten w x = fieldsStored w x := by
  rw [entryWritten, written, hsnoop]
  rfl

/-- The state once every field but enabled is written: snoop enabled set from clear makes the shop state Unknown (R25). -/
def fieldsWritten (t : TunnelId) (w : TunnelWrite) (s : State) : State :=
  if w.snoop = some 1 ∧ (s.tun t).cfg.snoop = false ∧ (s.tun t).shop ≠ .unknown then
    changeShop t .unknown (s.setTun t (entryWritten w (s.tun t)))
  else s.setTun t (entryWritten w (s.tun t))

theorem writeSnoop_fieldsStored {t : TunnelId} {w : TunnelWrite} {b : Byte} (hsnoop : w.snoop = some b) (s : State) :
    writeSnoop t (decide (b = 1)) (s.setTun t (fieldsStored w (s.tun t))) = fieldsWritten t w s := by
  have hentry : (s.setTun t (fieldsStored w (s.tun t))).modTun t (fun x => { x with cfg := { x.cfg with snoop := decide (b = 1) } })
      = s.setTun t (entryWritten w (s.tun t)) := by
    rw [State.modTun, State.setTun_setTun, State.tun_setTun_self, entryWritten, written, hsnoop]
    rfl
  have hold : ((s.setTun t (fieldsStored w (s.tun t))).tun t).cfg.snoop = (s.tun t).cfg.snoop := by
    rw [State.tun_setTun_self]
    rfl
  rw [writeSnoop, hentry, hold, fieldsWritten, hsnoop, setShop_setTun]
  simp only [decide_eq_true_eq, Option.some.injEq]
  by_cases hset : b = 1 ∧ (s.tun t).cfg.snoop = false
  · by_cases hshop : (s.tun t).shop = .unknown
    · rw [if_pos hset, if_pos (show (entryWritten w (s.tun t)).shop = .unknown from hshop), if_neg fun h => h.2.2 hshop]
    · rw [if_pos hset, if_neg (show ¬ (entryWritten w (s.tun t)).shop = .unknown from hshop), if_pos ⟨hset.1, hset.2, hshop⟩]
  · rw [if_neg hset, if_neg fun h => hset ⟨h.1, h.2.1⟩]

theorem whenCarried_writeSnoop {t : TunnelId} {w : TunnelWrite} (hok : carriedOk boolArg w.snoop = true) (s : State) :
    whenCarried (writeSnoop t) (w.snoop.bind boolArg) (s.setTun t (fieldsStored w (s.tun t))) = fieldsWritten t w s := by
  cases hsnoop : w.snoop with
  | none =>
    rw [fieldsWritten, hsnoop, if_neg (by simp), entryWritten_of_no_snoop hsnoop]
    rfl
  | some b =>
    rw [hsnoop] at hok
    rw [Option.bind_some, boolArg_of_accepted b hok]
    exact writeSnoop_fieldsStored hsnoop s

theorem changeShop_unknown_cfg (t : TunnelId) (s : State) : ((changeShop t .unknown s).tun t).cfg = (s.tun t).cfg := by
  by_cases hold : (s.tun t).shop = .closed
  · rw [changeShop_opening_of_unworn hold (by decide) (by simp), State.tun_setTun_self]
    exact (probeRestarted_cfg _ _).trans (openedWake_cfg t .unknown s)
  · rw [changeShop_among_open hold (by decide), if_neg (by decide), dormancyShopChange_of_open (by decide), State.tun_setTun_self,
      State.tun_setTun_self]
    rfl

theorem fieldsWritten_acts (t : TunnelId) (w : TunnelWrite) (s : State) : ActsAt t s (fieldsWritten t w s) :=
  .ite ((setTun_acts t _ s).trans (changeShop_acts t _ _)) (setTun_acts t _ s)

theorem fieldsWritten_enabled (t : TunnelId) (w : TunnelWrite) (s : State) :
    ((fieldsWritten t w s).tun t).cfg.enabled = (s.tun t).cfg.enabled := by
  unfold fieldsWritten
  split
  · rw [changeShop_unknown_cfg, State.tun_setTun_self]
    rfl
  · rw [State.tun_setTun_self]
    rfl

/-! ### The enabled field (R22, R23) -/

/-- What WRITE_TUNNEL makes of the state before the event settles (R21). -/
def tunnelWritten (t : TunnelId) (w : TunnelWrite) (s : State) : State :=
  whenCarried (writeEnabled t) (w.enabled.bind boolArg) (fieldsWritten t w s)

theorem tunnelWritten_of_some {t : TunnelId} {w : TunnelWrite} {v : Bool} (h : w.enabled = some (if v then 1 else 0)) (s : State) :
    tunnelWritten t w s = writeEnabled t v (fieldsWritten t w s) := by
  rw [tunnelWritten, h, Option.bind_some, (boolArg_eq_some_iff _ v).mpr rfl]
  rfl

theorem writeEnabled_same {t : TunnelId} {s : State} {v : Bool} (h : (s.tun t).cfg.enabled = v) : writeEnabled t v s = s := if_pos h.symm

theorem writeEnabled_set {t : TunnelId} {s : State} (h : (s.tun t).cfg.enabled = false) :
    writeEnabled t true s = enableTunnel t s := by
  rw [writeEnabled, h, if_neg (by decide), if_pos rfl]

theorem writeEnabled_clear {t : TunnelId} {s : State} (h : (s.tun t).cfg.enabled = true) :
    writeEnabled t false s = disableTunnel t s := by
  rw [writeEnabled, h, if_neg (by decide), if_neg (by decide)]

theorem enableTunnel_eq (t : TunnelId) (s : State) : enableTunnel t s
    = startInitialKeying t (s.setTun t (wokenTimer (dormancyTick s t) (nowEnabled (s.tun t)))) := by
  have htimer := wakeTimer_setTun t s (nowEnabled (s.tun t)) rfl
  rw [State.tun_setTun_self] at htimer
  exact congrArg (startInitialKeying t) htimer

theorem enableTunnel_of_keyed {t : TunnelId} {s : State} (hkey : (s.tun t).keyState ≠ .unkeyed) :
    enableTunnel t s = s.setTun t (wokenTimer (dormancyTick s t) (nowEnabled (s.tun t))) := by
  rw [enableTunnel_eq]
  refine startInitialKeying_idle t _ fun ⟨_, h⟩ => hkey ?_
  rw [State.tun_setTun_self, (wokenTimer_kept _ _).2.2.1] at h
  exact h

theorem enableTunnel_of_unkeyed {t : TunnelId} {s : State} (hkey : (s.tun t).keyState = .unkeyed) : enableTunnel t s
    = attempt t 1 (s.setTun t (keyingStart (wokenTimer (dormancyTick s t) (nowEnabled (s.tun t))))) := by
  obtain ⟨hcfg, -, hkey', -⟩ := wokenTimer_kept (dormancyTick s t) (nowEnabled (s.tun t))
  rw [enableTunnel_eq, startInitialKeying_eq_attempt (by rw [State.tun_setTun_self, hcfg]; rfl)
    (by rw [State.tun_setTun_self, hkey']; exact hkey), State.setTun_setTun, State.tun_setTun_self]
  rfl

theorem unkeyedFrom_eq (k : KeyState) : k.unkeyedFrom = if k = .noSecret ∨ k = .bootstrap then k else .unkeyed := by
  cases k <;> simp [KeyState.unkeyedFrom]

theorem disableTunnel_tun (t : TunnelId) (s : State) : (disableTunnel t s).tun t = withQueue [] (disabled (s.tun t)) := by
  rw [disableTunnel_eq, flush_tun, State.tun_setTun_self]
  rfl

theorem keysOf_disableTunnel (t : TunnelId) (s : State) : KeysOf t s (disableTunnel t s) where
  tun := (disableTunnel_acts t s).others
  list g := list_of_flushed (s := s) rfl g
  rest := by rw [disableTunnel_eq, keysFrame_flush, keysFrame_setTun, keysFrame_abortGeneration, keysFrame_self]

/-! ### WRITE_TUNNEL -/

theorem exec_writeTunnel {h : CmdHeader} {t : TunnelId} {w : TunnelWrite} {s : State} (ht : Taken h s) (hw : w.tunnel.toNat = t.val)
    (hok : TunnelWriteOk w = true) (hfree : ¬ ((s.tun t).cfg.enabled = true ∧ TunnelWriteFixed w = true)) :
    exec (.writeTunnel h w) s = .next ((settle t (tunnelWritten t w (s.learned h))).answered h 0x0F .ok
      ((settle t (tunnelWritten t w (s.learned h))).tun t).bytes) := by
  refine exec_answered rfl ht ?_
  have hfree' : ¬ (((s.learned h).tun t).cfg.enabled = true ∧ TunnelWriteFixed w = true) := hfree
  have hsnoop : carriedOk boolArg w.snoop = true := ((Bool.and_eq_true _ _).mp hok).2
  have hwrite : writeTunnel t w (s.learned h) = settle t (tunnelWritten t w (s.learned h)) := by
    rw [writeTunnel_eq, whenCarried_writeSnoop hsnoop]
    rfl
  simp only [opWriteTunnel, tunnelArg_eq_some hw, hok, Bool.true_eq_false, if_false, if_neg hfree', hwrite]

theorem exec_writeTunnel_fixed {h : CmdHeader} {t : TunnelId} {w : TunnelWrite} {s : State} (ht : Taken h s) (hw : w.tunnel.toNat = t.val)
    (hok : TunnelWriteOk w = true) (hfixed : (s.tun t).cfg.enabled = true ∧ TunnelWriteFixed w = true) :
    exec (.writeTunnel h w) s = .next ((s.learned h).answered h 0x0F .badState []) := by
  refine exec_answered rfl ht ?_
  have hfixed' : ((s.learned h).tun t).cfg.enabled = true ∧ TunnelWriteFixed w = true := hfixed
  simp only [opWriteTunnel, tunnelArg_eq_some hw, hok, Bool.true_eq_false, if_false, if_pos hfixed']

theorem exec_writeTunnel_refused {h : CmdHeader} {w : TunnelWrite} {s : State} (ht : Taken h s)
    (hbad : 1023 < w.tunnel.toNat ∨ TunnelWriteOk w = false) :
    exec (.writeTunnel h w) s = .next ((s.learned h).answered h 0x0F .badArg []) := by
  refine exec_answered rfl ht ?_
  unfold opWriteTunnel
  split
  · rfl
  next t harg =>
    rcases hbad with hbad | hbad
    · rw [tunnelArg_eq_none (by omega)] at harg
      cases harg
    · exact if_pos hbad

/-- What an accepted WRITE_TUNNEL stores, field by field (R21, R25). -/
theorem written_fields {w : TunnelWrite} (hok : TunnelWriteOk w = true) (c : TunnelConfig) :
    (written w c).profile.val = (w.profile.map BitVec.toNat).getD c.profile.val
      ∧ (written w c).role = (w.role.map roleOf).getD c.role
      ∧ (written w c).reference.val = (w.reference.map BitVec.toNat).getD c.reference.val
      ∧ (written w c).weight.val = (w.weight.map BitVec.toNat).getD c.weight.val
      ∧ (written w c).shadowGroup.val = (w.shadowGroup.map BitVec.toNat).getD c.shadowGroup.val := by
  simp only [TunnelWriteOk, Bool.and_eq_true] at hok
  obtain ⟨⟨⟨⟨⟨⟨-, hprofile⟩, hrole⟩, hreference⟩, hweight⟩, hgroup⟩, -⟩ := hok
  exact ⟨stored_field (f := Fin.val) (fun _ _ => val_of_dite) hprofile _, stored_field (f := id) eq_roleOf hrole _,
    stored_field (f := Fin.val) (fun _ _ => val_of_dite) hreference _, stored_field (f := Fin.val) (fun _ _ => val_of_dite) hweight _,
    stored_field (f := Fin.val) (fun _ _ => val_of_dite) hgroup _⟩

theorem match_role (role : Option Byte) (old : HealthRole) : (role.map roleOf).getD old = (match role with
    | none => old
    | some b => if b = 0 then .independent else if b = 1 then .reference else .follower) := by
  cases role <;> rfl

/-- The timer of an enabled tunnel, as WRITE_TUNNEL arms it (R140). -/
theorem wokenTimer_nowEnabled {t : TunnelId} {s r : State} (h : ActsAt t s r) : wokenTimer (dormancyTick r t) (nowEnabled (r.tun t))
    = { nowEnabled (r.tun t) with
        dormancyExpiry := if (r.tun t).shop = .closed then some (s.after ((r.prof t).dormancyTimeout * 100))
          else (r.tun t).dormancyExpiry
        dormancyDue := if (r.tun t).shop = .closed then false else (r.tun t).dormancyDue } := by
  rw [wokenTimer_eq, dormancyTick, actsAt_after h]
  rfl

/-- Settles O55: the refusals, what is stored, and the enabled field by its old and its new value. -/
theorem writeTunnelChangesTheEntry : Obligations.WriteTunnelChangesTheEntry := by
  intro h w s ht q bad fixed
  have hbad : TunnelWriteOk w = false ↔ bad := tunnelWriteOk_eq_false_iff w
  have hfixed : TunnelWriteFixed w = true ↔ fixed := tunnelWriteFixed_iff w
  refine ⟨fun hrefused => exec_writeTunnel_refused ht (hrefused.imp_right hbad.mpr), ?_⟩
  intro t hw hgood x
  have hok : TunnelWriteOk w = true := Bool.not_eq_false _ ▸ fun h => hgood (hbad.mp h)
  refine ⟨fun henabled hf => exec_writeTunnel_fixed ht hw hok ⟨henabled, hfixed.mpr hf⟩, fun hfree => ?_⟩
  have hfree' : ¬ ((s.tun t).cfg.enabled = true ∧ TunnelWriteFixed w = true) := by
    rintro ⟨henabled, hf⟩
    rcases hfree with hoff | hnot
    · exact absurd henabled (by rw [show (s.tun t).cfg.enabled = false from hoff]; nofun)
    · exact hnot (hfixed.mp hf)
  obtain ⟨hprofile, hrole, hreference, hweight, hgroup⟩ := written_fields hok x.cfg
  have henabled : ((fieldsWritten t w q).tun t).cfg.enabled = x.cfg.enabled := fieldsWritten_enabled t w q
  have hacts : ActsAt t q (fieldsWritten t w q) := fieldsWritten_acts t w q
  refine ⟨written w x.cfg, tunnelWritten t w q, exec_writeTunnel ht hw hok hfree',
    ⟨rfl, rfl, hprofile, rfl, hrole.trans (match_role _ _), hreference, hweight, hgroup, rfl⟩, fun hsame => ?_, fun hset hoff hkey => ?_,
    fun hset hoff hkey => ?_, fun hclear hon => ?_⟩
  · rcases hsame with hnone | hsame
    · change tunnelWritten t w q = fieldsWritten t w q
      rw [tunnelWritten, hnone]
      rfl
    · exact (tunnelWritten_of_some hsame q).trans (writeEnabled_same henabled)
  · rw [tunnelWritten_of_some (v := true) hset, writeEnabled_set (henabled.trans hoff), enableTunnel_of_keyed (s := fieldsWritten t w q) hkey,
      wokenTimer_nowEnabled hacts]
    rfl
  · rw [tunnelWritten_of_some (v := true) hset, writeEnabled_set (henabled.trans hoff), enableTunnel_of_unkeyed (s := fieldsWritten t w q) hkey,
      wokenTimer_nowEnabled hacts]
    rfl
  · have hr : tunnelWritten t w q = disableTunnel t (fieldsWritten t w q) :=
      (tunnelWritten_of_some (v := false) hclear q).trans (writeEnabled_clear (henabled.trans hon))
    have hkeys := keysOf_disableTunnel t (fieldsWritten t w q)
    rw [hr]
    refine ⟨?_, hkeys.list, ?_, ?_, hkeys.tun, hkeys.rest⟩
    · rw [disableTunnel_tun, withQueue, disabled, unkeyedFrom_eq]
      rfl
    · exact abortGeneration_queue t (fieldsWritten t w q)
    · exact abortGeneration_flight t (fieldsWritten t w q)

end Sys2Proof.Proofs
end

section

namespace Sys2Proof.Proofs

open Sys2Proof Sys2Proof.Machine

/-! ### RESET under the bridge's own label and under broadcast (R156, R162, R169, R170, R172) -/

/-- The state in which a RESET runs: the address is learned, or the broadcast frame is forwarded first. -/
def resetTaken (h : CmdHeader) (s : State) : State :=
  h.broadcast.elim (s.learned h) fun f => (cascadeForward f s).1

/-- The context in which a RESET runs. -/
def resetCtx (h : CmdHeader) (s : State) : CmdCtx :=
  h.broadcast.elim (ownCtx h) fun f => wideCtx h (cascadeForward f s).2

theorem exec_reset {h : CmdHeader} {c : Instr} {op : CmdOp} {s : State} (hrow : exec c s = .next (s.live (commandRow h codeReset op)))
    (hlive : s.rstLow = false) (hidle : s.progress = none) :
    exec c s = .next (State.afterAnswer h codeReset (op (resetCtx h s) (resetTaken h s))) := by
  rw [hrow, resetCtx, resetTaken]
  cases hlabel : h.broadcast with
  | none => rw [commandRow_taken h codeReset op s ⟨hlive, hlabel, hidle⟩]; rfl
  | some f => rw [commandRow_wide op hlive hlabel rfl hidle]; rfl

theorem resetCtx_sender (h : CmdHeader) (s : State) : (resetCtx h s).source = h.source ∧ (resetCtx h s).tag = h.tag := by
  rw [resetCtx]
  cases h.broadcast <;> exact ⟨rfl, rfl⟩

theorem resetCtx_joined (h : CmdHeader) (s : State) :
    (resetCtx h s).joined = true ↔ h.broadcast ≠ none ∧ s.cascadeUp = true ∧ s.cascadeList.length < 16 := by
  rw [resetCtx]
  cases h.broadcast with
  | none => simp [ownCtx]
  | some f => simpa [wideCtx] using cascadeForward_joined f s

theorem resetTaken_frame (h : CmdHeader) (s : State) : (resetTaken h s).tunnels = s.tunnels ∧ (resetTaken h s).uplinks = s.uplinks
    ∧ (resetTaken h s).flags = s.flags ∧ (resetTaken h s).tick = s.tick ∧ (resetTaken h s).profiles = s.profiles
    ∧ (resetTaken h s).kduFlight = s.kduFlight := by
  rw [resetTaken]
  cases h.broadcast with
  | none => exact ⟨rfl, rfl, rfl, rfl, rfl, rfl⟩
  | some f =>
    change (cascadeForward f s).1.tunnels = _ ∧ (cascadeForward f s).1.uplinks = _ ∧ (cascadeForward f s).1.flags = _
      ∧ (cascadeForward f s).1.tick = _ ∧ (cascadeForward f s).1.profiles = _ ∧ (cascadeForward f s).1.kduFlight = _
    rw [cascadeForward_state]
    split
    · exact ⟨rfl, rfl, rfl, rfl, rfl, rfl⟩
    · split <;> exact ⟨rfl, rfl, rfl, rfl, rfl, rfl⟩

theorem awaitLast_append (l : List CascadeEntry) (e : CascadeEntry) : awaitLast (l ++ [e]) = l ++ [{ e with awaited := true }] := by
  induction l with
  | nil => rfl
  | cons a l ih =>
    cases l with
    | nil => rfl
    | cons b l => rw [List.cons_append, List.cons_append, awaitLast, ← List.cons_append, ih, ← List.cons_append]; nofun

theorem levelOne_tun (s : State) (t : TunnelId) : (levelOne s).tun t = countersCleared (s.tun t) :=
  tun_of_vecMap (f := countersCleared) rfl t

theorem levelOne_uplink (s : State) (u : UplinkId) : (levelOne s).uplink u = uplinkCleared (s.uplink u) :=
  vecMap_getElem uplinkCleared s.uplinks u.val u.isLt

theorem levelOne_rest (s : State) : levelOne s = { s with
    counters := DeviceCounters.zero, faults := [], overflow := 0, flags := s.flags &&& 1, faultInd := (levelOne s).indicatorLevel
    tunnels := (levelOne s).tunnels, uplinks := (levelOne s).uplinks } := rfl

theorem keysFrame_of_parts (s : State) (tunnels : Vector Tunnel 1024) (waiting : Vector (List TunnelId) 4) (queue : List KduEntry)
    (flight : Option KduFlight) : { s with tunnels := tunnels, waiting := waiting, kduQueue := queue, kduFlight := flight }
      = keysFrame { s with tunnels := tunnels, waiting := waiting, kduQueue := queue, kduFlight := flight } s := rfl

theorem levelledTwo_queue (s : State) : (levelledTwo s).kduQueue = bootstrapEntries s := by simp only [levelledTwo]

theorem levelledTwo_rest (s : State) : levelledTwo s = keysFrame (levelledTwo s) s := by
  unfold levelledTwo
  exact keysFrame_of_parts s _ _ _ _

/-- The entry of a tunnel after its part of a level 2, its timer running anew where the shop is Closed (R20, R137). -/
theorem levelTwo_entry (now : Tick) (profiles : Vector Profile 16) (x : Tunnel) : x.levelTwo now profiles = { x with
    cur := none, prev := none, nonce := none, attempts := 0, holdoff := none, jitter := none, grace := none
    rate := 0, sample := 0, egress := [], dormant := false, renewBefore := false, dormancyDue := false
    keyState := if x.keyState = .noSecret ∨ x.keyState = .bootstrap then x.keyState else .unkeyed
    dormancyExpiry := if x.cfg.enabled = true ∧ x.shop = .closed
      then some (now + BitVec.ofNat 32 (profiles[x.cfg.profile].dormancyTimeout * 100)) else none
    health := { Health.reset with probe := x.health.probe } } := by
  rw [Tunnel.levelTwo, unkeyedFrom_eq]
  rfl

theorem bootstrapEntries_eq (s : State) : bootstrapEntries s
    = ((List.finRange 1024).filter fun t => decide ((s.tun t).keyState = .bootstrap)).map
        (fun t => { tunnel := t, kind := .bootstrap }) :=
  congrArg (List.map _) (List.filter_congr fun _ _ => (Bool.beq_eq_decide_eq _ _))

/-- Settles O59: the three levels, each on the state with the address learned or the broadcast forwarded. -/
theorem resetCommands : Obligations.ResetCommands := by
  intro h s hlive hidle q
  have hq : resetTaken h s = q := by
    rw [resetTaken]
    cases hlabel : h.broadcast with
    | none => simp only [q, hlabel]; rfl
    | some f => simp only [q, hlabel, Option.elim_some, cascadeForward_state]
  have hlist (f : EthFrame) (hlabel : h.broadcast = some f) (hup : s.cascadeUp = true) (hroom : s.cascadeList.length < 16) :
      q = { s with cascadeList := s.cascadeList ++ [{ frame := f, awaited := false }] } := by
    simp only [q, hlabel, hup, Bool.true_eq_false, if_false, if_pos hroom]
  clear_value q
  obtain ⟨htunnels, huplinks, hflags, htick, hprofiles, hflight⟩ := resetTaken_frame h s
  obtain ⟨hsource, htag⟩ := resetCtx_sender h s
  rw [hq] at htunnels huplinks hflags htick hprofiles hflight
  have htun (t : TunnelId) : q.tun t = s.tun t := by rw [State.tun, htunnels, State.tun]
  refine ⟨⟨levelOne q, ?_, fun t => ?_, fun u => ?_, ?_⟩, ⟨levelledTwo q, ?_, fun t => ?_, fun g => ?_, ?_, ?_, ?_⟩, fun hfree => ?_,
    fun f hlabel hup hroom => ?_⟩
  · rw [exec_reset (op := opResetLevel1) rfl hlive hidle, hq]
    rfl
  · rw [levelOne_tun, htun]
    rfl
  · rw [levelOne_uplink, State.uplink, huplinks]
    rfl
  · rw [← hflags]
    exact levelOne_rest q
  · rw [exec_reset (op := opResetLevel2) rfl hlive hidle, hq, ← hsource, ← htag]
    rfl
  · rw [levelledTwo_tun, htun, levelTwo_entry, htick, hprofiles]
    rfl
  · exact list_of_vecConst rfl g
  · rw [levelledTwo_queue, bootstrapEntries_eq]
    simp only [htun]
  · change q.kduFlight.map _ = _
    rw [hflight]
  · exact levelledTwo_rest q
  · rw [exec_reset (op := opResetLevel3) rfl hlive hidle, hq, ← hsource, ← htag]
    have hjoined : (resetCtx h s).joined = false := by
      rw [Bool.eq_false_iff, Ne, resetCtx_joined]
      rintro ⟨hwide, hup, hroom⟩
      rcases hfree with hown | hdown | hfull
      · exact hwide hown
      · rw [hup] at hdown
        cases hdown
      · omega
    simp only [opResetLevel3, hjoined, Bool.false_eq_true, if_false]
    rfl
  · rw [exec_reset (op := opResetLevel3) rfl hlive hidle, hq, ← hsource, ← htag]
    have hjoined : (resetCtx h s).joined = true := (resetCtx_joined h s).mpr ⟨by simp [hlabel], hup, hroom⟩
    rw [hlist f hlabel hup hroom]
    simp only [opResetLevel3, hjoined, if_true, awaitLast_append]
    rfl

end Sys2Proof.Proofs
end

section

namespace Sys2Proof.Proofs

open Sys2Proof Sys2Proof.Machine

/-! ### What an attempt does goes on whether or not a command is in progress -/

/-- The state with no command in progress. -/
def idled (s : State) : State := { s with progress := none }

theorem idled_ite {c : Prop} {dec : Decidable c} (a b : State) :
    idled (@ite State c dec a b) = @ite State c dec (idled a) (idled b) := apply_ite idled c a b

theorem recordPost_idled (k : FaultKind) (subject : Option Nat) (detail : BitVec 32) (s : State) :
    recordPost k subject detail (idled s) = idled (recordPost k subject detail s) := by
  dsimp only [recordPost]
  rw [idled_ite]
  rfl

theorem dropNotice_idled (s : State) : dropNotice (idled s) = idled (dropNotice s) := by
  have hrecord : recordPost .officeOverrun none (BitVec.ofNat 32 (idled s).freeSlots) (countOverrun (idled s))
      = idled (recordPost .officeOverrun none (BitVec.ofNat 32 s.freeSlots) (countOverrun s)) :=
    recordPost_idled _ _ _ (countOverrun s)
  simp only [dropNotice, hrecord]
  rw [idled_ite]
  rfl

theorem sendNotice_idled (s : State) : sendNotice (idled s) = idled (sendNotice s) := by
  unfold sendNotice
  rw [show (idled s).station = s.station from rfl]
  split
  · rfl
  · rw [dropNotice_idled, idled_ite]
    rfl

theorem noticeOnSet_idled (s : State) : noticeOnSet (idled s) = idled (noticeOnSet s) := by
  unfold noticeOnSet
  rw [show (idled s).holdoffExpiry = s.holdoffExpiry from rfl]
  split
  · exact sendNotice_idled (armNotice s)
  · rfl

theorem post_idled (k : FaultKind) (subject : Option Nat) (detail : BitVec 32) (s : State) :
    post k subject detail (idled s) = idled (post k subject detail s) := by
  simp only [post, recordPost_idled, noticeOnSet_idled]
  rw [idled_ite]
  rfl

theorem enqueue_idled (t : TunnelId) (f : CarrierFrame) (s : State) : enqueue t f (idled s) = idled (enqueue t f s) := by
  dsimp only [enqueue]
  rw [idled_ite]
  rfl

theorem endKeying_idled (t : TunnelId) (s : State) : endKeying t (idled s) = idled (endKeying t s) := rfl

theorem attempt_idled (t : TunnelId) (target : BitVec 8) (s : State) : attempt t target (idled s) = idled (attempt t target s) := by
  cases hsend : sendOffer t target (Config.drawnNonce s.draws) (drawn s) with
  | none =>
    have hsend' : sendOffer t target (Config.drawnNonce (idled s).draws) (drawn (idled s)) = none := by
      simp only [sendOffer] at hsend ⊢
      split at hsend
      next hg => simp only [show ((drawn (idled s)).tun t).gen0 = none from hg]
      next g hg =>
        simp only [show ((drawn (idled s)).tun t).gen0 = some g from hg]
        split at hsend
        next hfull => exact if_pos hfull
        next => cases hsend
    rw [attempt_of_unsent hsend, attempt_of_unsent hsend']
    rfl
  | some r =>
    obtain ⟨g, hg, hnum, hroom, -⟩ := sendOffer_some hsend
    have hslots : 0 < s.freeSlots := Nat.pos_of_ne_zero hroom
    rcases hnum.lt_or_eq with hless | hlast
    · rw [attempt_of_sent (s := s) hg hless hslots, attempt_of_sent (s := idled s) hg hless hslots, ← enqueue_idled]
      rfl
    · rw [attempt_of_last (s := s) hg hlast hslots, attempt_of_last (s := idled s) hg hlast hslots, ← post_idled, ← endKeying_idled,
        ← enqueue_idled]
      rfl

/-! ### The initial keyings that end a level 2 (R65, R170) -/

/-- The entry of an UNKEYED tunnel as its first attempt after a level 2 begins: a rest entered meanwhile is cleared, and the timer
of a Closed shop's tunnel then runs to `e` (R20, R65, R137). -/
def keyedAnew (e : Tick) (x : Tunnel) : Tunnel :=
  { x with
    holdoff := none, attempts := 0, keyState := .offering 1, dormant := false
    dormancyExpiry := if x.dormant = true ∧ x.shop = .closed then some e else x.dormancyExpiry
    dormancyDue := if x.dormant = true ∧ x.shop = .closed then false else x.dormancyDue }

theorem clearRest_of_awake {t : TunnelId} {s : State} (h : (s.tun t).dormant = false) : clearRest t s = s :=
  if_neg (by rw [h]; nofun)

theorem clearRest_of_dormant {t : TunnelId} {s : State} (h : (s.tun t).dormant = true) :
    clearRest t s = s.setTun t (wokenTimer (dormancyTick s t) (awake (s.tun t))) := by
  have htimer := wakeTimer_setTun t s (awake (s.tun t)) rfl
  rw [State.tun_setTun_self] at htimer
  rw [clearRest, if_pos h]
  exact htimer

theorem keyedAnew_of_awake {x : Tunnel} (h : x.dormant = false) (e : Tick) : keyedAnew e x = keyingStart x := by
  have hawake : ¬ (x.dormant = true ∧ x.shop = .closed) := by simp [h]
  rw [keyedAnew, if_neg hawake, if_neg hawake, ← h]
  rfl

theorem keyedAnew_of_dormant {x : Tunnel} (h : x.dormant = true) (e : Tick) :
    keyedAnew e x = keyingStart (wokenTimer e (awake x)) := by
  rw [wokenTimer_eq, keyedAnew]
  simp only [h, true_and]
  rfl

theorem startAnew_eq {t : TunnelId} {s : State} (henabled : (s.tun t).cfg.enabled = true) (hkey : (s.tun t).keyState = .unkeyed) :
    startInitialKeying t (clearRest t s) = attempt t 1 (s.setTun t (keyedAnew (dormancyTick s t) (s.tun t))) := by
  cases hd : (s.tun t).dormant with
  | false => rw [clearRest_of_awake hd, startInitialKeying_eq_attempt henabled hkey, keyedAnew_of_awake hd]; rfl
  | true =>
    obtain ⟨hcfg, -, hkey', -⟩ := wokenTimer_kept (dormancyTick s t) (awake (s.tun t))
    rw [clearRest_of_dormant hd, startInitialKeying_eq_attempt (by rw [State.tun_setTun_self, hcfg]; exact henabled)
      (by rw [State.tun_setTun_self, hkey']; exact hkey), State.setTun_setTun, State.tun_setTun_self, keyedAnew_of_dormant hd]
    rfl

/-- The tunnels of `l` stand in `r` as they stood in `s`, and their timers with them. -/
structure Unreached (l : List TunnelId) (s r : State) : Prop where
  tun : ∀ t ∈ l, r.tun t = s.tun t
  tick : r.tick = s.tick
  profiles : r.profiles = s.profiles

theorem Unreached.timer {t : TunnelId} {l : List TunnelId} {s r : State} (h : Unreached (t :: l) s r) :
    dormancyTick r t = dormancyTick s t := by
  simp only [dormancyTick, State.prof, State.after, h.tun t List.mem_cons_self, h.tick, h.profiles]

theorem Unreached.past {t : TunnelId} {l : List TunnelId} {s r q : State} (h : Unreached (t :: l) s r) (ht : t ∉ l) (hacts : ActsAt t r q) :
    Unreached l s q := by
  obtain ⟨-, htick, -, hprofiles, -⟩ := hacts.fields
  exact ⟨fun u hu => (hacts.others u fun e => ht (e ▸ hu)).trans (h.tun u (List.mem_cons_of_mem t hu)), htick.trans h.tick,
    hprofiles.trans h.profiles⟩

/-- The first attempt of tunnel `t`, its timer as it was set in `s`. -/
def firstAttempt (s r : State) (t : TunnelId) : State := attempt t 1 (r.setTun t (keyedAnew (dormancyTick s t) (r.tun t)))

theorem firstAttempt_acts (s r : State) (t : TunnelId) : ActsAt t r (firstAttempt s r t) :=
  (setTun_acts t _ r).trans (attempt_acts t 1 _)

theorem firstAttempt_idled (s r : State) (t : TunnelId) : firstAttempt s (idled r) t = idled (firstAttempt s r t) :=
  attempt_idled t 1 (r.setTun t (keyedAnew (dormancyTick s t) (r.tun t)))

/-- The initial keyings of the tunnels in `l`, one after another: each still finds its own tunnel untouched. -/
theorem startAll_foldl (s : State) (l : List TunnelId) : ∀ r, l.Nodup → Unreached l s r →
    idled (l.foldl (fun s t => if (s.tun t).cfg.enabled = true ∧ (s.tun t).keyState = .unkeyed
        then startInitialKeying t (clearRest t s) else s) r)
      = (l.filter fun t => decide ((s.tun t).cfg.enabled = true ∧ (s.tun t).keyState = .unkeyed)).foldl (firstAttempt s) (idled r) := by
  induction l with
  | nil => exact fun _ _ _ => rfl
  | cons t l ih =>
    intro r hnodup hr
    obtain ⟨ht, hl⟩ := List.nodup_cons.mp hnodup
    have hsame := hr.tun t List.mem_cons_self
    by_cases h : (s.tun t).cfg.enabled = true ∧ (s.tun t).keyState = .unkeyed
    · have hfirst : startInitialKeying t (clearRest t r) = firstAttempt s r t := by
        rw [startAnew_eq (by rw [hsame]; exact h.1) (by rw [hsame]; exact h.2), hr.timer]
        rfl
      rw [List.foldl_cons, hsame, if_pos h, hfirst, List.filter_cons_of_pos (by simpa using h), List.foldl_cons, firstAttempt_idled]
      exact ih _ hl (hr.past ht (firstAttempt_acts s r t))
    · rw [List.foldl_cons, hsame, if_neg h, List.filter_cons_of_neg (by simpa using h)]
      exact ih r hl (hr.past ht (.refl t r))

theorem startAllInitialKeying_eq (s : State) : idled (startAllInitialKeying s)
    = (allTunnels.filter fun t => decide ((s.tun t).cfg.enabled = true ∧ (s.tun t).keyState = .unkeyed)).foldl (firstAttempt s) (idled s) :=
  startAll_foldl s allTunnels s allTunnels_nodup ⟨fun _ _ => rfl, rfl, rfl⟩

/-! ### The four reset events -/

theorem exec_resetLevel2Complete {src : Mac} {tag : BitVec 16} {s : State} (hlive : s.rstLow = false)
    (hlevel : s.progress = some (.level2 src tag)) :
    exec .resetLevel2Complete s = .next (serveAll (sendReply src tag 0x1B .ok [] (idled (startAllInitialKeying s)))) := by
  change Host.Outcome.next (s.live _) = _
  rw [State.live_high hlive]
  simp only [hlevel]
  rfl

theorem awaitsCascade_eq_true_iff (s : State) : s.awaitsCascade = true ↔ ∃ e ∈ s.cascadeList, e.awaited = true := List.any_eq_true

theorem exec_resetLevel3Perform {straps : BitVec 6} {src : Mac} {tag : BitVec 16} {s : State} (hlive : s.rstLow = false)
    (hlevel : s.progress = some (.level3 src tag)) : exec (.resetLevel3Perform straps) s
      = .next (if s.awaitsCascade then s else sendReply src tag 0x1B .ok [] (pinReset straps s)) := by
  change Host.Outcome.next (s.live _) = _
  rw [State.live_high hlive]
  simp only [hlevel]
  rfl

/-- The uplink as the fall of RST_N leaves it (R171). -/
def txEnded (x : Uplink) : Uplink := { x with tx := none }

/-- Settles O60: the completion of a level 2, and the reset values that the performance of a level 3 and the pin share. -/
theorem resetsTakeEffect : Obligations.ResetsTakeEffect := by
  refine ⟨fun src tag s hlive hlevel => ?_, fun straps s => ⟨pinReset straps s, fun t => (pinReset_atReset straps s).tun t,
    fun p => (pinReset_atReset straps s).profile p, fun i => ⟨vecConst_getElem _ i.val i.isLt, vecConst_getElem _ i.val i.isLt⟩,
    fun u => ⟨list_of_vecConst rfl u, vecConst_getElem _ u.val u.isLt, vecMap_getElem _ s.uplinks u.val u.isLt⟩, rfl, rfl, rfl, ?_, ?_,
    ⟨rfl, rfl, rfl, rfl⟩, rfl, fun hlow => ?_, fun hhigh => ?_, fun src tag hlive hlevel => ⟨fun hfree => ?_, fun hwait => ?_⟩, ?_⟩⟩
  · rw [exec_resetLevel2Complete hlive hlevel, startAllInitialKeying_eq]
    rfl
  · exact ⟨rfl, rfl, rfl, rfl, rfl, rfl, rfl, rfl, rfl, rfl, rfl, rfl, rfl, rfl, rfl, rfl, rfl⟩
  · exact ⟨rfl, rfl, rfl, rfl, rfl, rfl, rfl, rfl, rfl, rfl, rfl, rfl, rfl, rfl, rfl, rfl, rfl, rfl, rfl, rfl, rfl⟩
  · exact congrArg Host.Outcome.next (if_pos hlow)
  · exact congrArg Host.Outcome.next (if_neg (by rw [hhigh]; nofun))
  · have hnot : ¬ s.awaitsCascade = true := by
      rw [awaitsCascade_eq_true_iff]
      rintro ⟨e, he, hawaited⟩
      rw [hfree e he] at hawaited
      cases hawaited
    rw [exec_resetLevel3Perform hlive hlevel, if_neg hnot]
  · rw [exec_resetLevel3Perform hlive hlevel, if_pos ((awaitsCascade_eq_true_iff s).mpr hwait)]
  · exact ⟨_, rfl, fun u => vecMap_getElem txEnded s.uplinks u.val u.isLt, rfl⟩

end Sys2Proof.Proofs
end

section

namespace Sys2Proof.Proofs

open Sys2Proof Sys2Proof.Machine

theorem exec_of_live {c : Instr} {f : State → State} {s : State} (hrow : exec c s = .next (s.live f)) (hlive : s.rstLow = false) :
    exec c s = .next (f s) := by rw [hrow, State.live_high hlive]

/-! ### The office port's transmissions and the cascade port (R54, R163) -/

/-- Settles O47: each event of the two ports, and each case in which it cannot occur. -/
theorem officeAndCascadePorts : Obligations.OfficeAndCascadePorts := by
  intro s hlive
  refine ⟨fun k f rest hidle hqueue => ?_, fun hnone => ?_, ?_, fun hup hlist => ?_, fun hnone => ?_,
    fun e rest htx hlist => ?_, fun htx => ?_, ?_, rfl, fun f fcsOk => ⟨fun hup hgood htype hlen hfree => ?_, fun hup hbad => ?_,
    fun hdown => ?_⟩⟩
  · rw [exec_of_live (c := .officeTxStart) rfl hlive]
    simp only [hidle, hqueue]
    rfl
  · rw [exec_of_live (c := .officeTxStart) rfl hlive]
    split
    next f rest hidle hqueue =>
      rcases hnone with hbusy | hempty
      · exact absurd hidle hbusy
      · rw [hempty] at hqueue
        cases hqueue
    next => rfl
  · rw [exec_of_live (c := .officeTxComplete) rfl hlive]
  · rw [exec_of_live (c := .cascadeTxStart) rfl hlive, if_pos (by simp [hup, hlist])]
  · rw [exec_of_live (c := .cascadeTxStart) rfl hlive, if_neg (by rcases hnone with h | h <;> simp [h])]
  · rw [exec_of_live (c := .cascadeTxComplete) rfl hlive, if_pos htx, hlist]
    rfl
  · rw [exec_of_live (c := .cascadeTxComplete) rfl hlive, if_neg (by simp [htx])]
  · change Host.Outcome.next (({ s with cascadeUp := false } : State).live _) = _
    rw [State.live_high (s := { s with cascadeUp := false }) hlive]
    rfl
  · rw [exec_of_live (c := .cascadeFrameReceive f fcsOk) rfl hlive, if_pos hup,
      if_pos (by rw [hgood, htype]; rfl), offerReserved_of_room _ _ ((officeRoom_eq_true_iff s 0).mpr ⟨hlen, hfree⟩)]
    rfl
  · rw [exec_of_live (c := .cascadeFrameReceive f fcsOk) rfl hlive, if_pos hup,
      if_neg (by rw [Bool.and_eq_true, beq_iff_eq]; exact hbad)]
    rfl
  · rw [exec_of_live (c := .cascadeFrameReceive f fcsOk) rfl hlive, if_neg (by simp [hdown])]

/-! ### A notice, sent or dropped (R53, R158, R160) -/

/-- No kind but the reset itself sets the flag RESET (R152). -/
theorem flagBit_spares_reset (k : FaultKind) : (flagBit k.flag).getLsbD 0 = false := by cases k <;> rfl

theorem recordPost_resetFlag (k : FaultKind) (subject : Option Nat) (d : BitVec 32) (s : State) :
    (recordPost k subject d s).flags.getLsbD 0 = s.flags.getLsbD 0 := by
  have hoverflow : (flagBit flagOverflow).getLsbD 0 = false := rfl
  dsimp only [recordPost]
  split <;> simp only [setFlags_flags, BitVec.getLsbD_or, flagBit_spares_reset, hoverflow, Bool.or_false]

theorem recordPost_settings (k : FaultKind) (subject : Option Nat) (d : BitVec 32) (s : State) :
    (recordPost k subject d s).noticeMode = s.noticeMode ∧ (recordPost k subject d s).eventMask = s.eventMask
      ∧ (recordPost k subject d s).noticePending = s.noticePending :=
  have h := recordPost_frame k subject d s
  ⟨(congrArg State.noticeMode h :), (congrArg State.eventMask h :), (congrArg State.noticePending h :)⟩

theorem modeInForce_eq_event_iff (s : State) : s.modeInForce = .event ↔ s.flags.getLsbD 0 = false ∧ s.noticeMode = .event := by
  rw [State.modeInForce, State.resetFlag, flagReset]
  cases s.flags.getLsbD 0 <;> simp

/-- A post looks at the mode in force as it stood before (R159). -/
theorem recordPost_modeInForce (k : FaultKind) (subject : Option Nat) (d : BitVec 32) (s : State) :
    (recordPost k subject d s).modeInForce = .event ↔ s.flags.getLsbD 0 = false ∧ s.noticeMode = .event := by
  rw [modeInForce_eq_event_iff, recordPost_resetFlag, (recordPost_settings k subject d s).1]

theorem recordPost_newlyMasked (k : FaultKind) (subject : Option Nat) (d : BitVec 32) (s : State) (old : BitVec 11) :
    (recordPost k subject d s).newlyMasked old = true ↔ (recordPost k subject d s).flags &&& ~~~old &&& s.eventMask ≠ 0 := by
  rw [State.newlyMasked, (recordPost_settings k subject d s).2.1]
  exact bne_iff_ne

/-- The record of a notice that the office transmit queue drops (R53). -/
def overrunRecord (s : State) : State := recordPost .officeOverrun none (BitVec.ofNat 32 s.freeSlots) (countOverrun s)

/-- A dropped notice is counted and recorded; a flag of the event mask that the record newly sets leaves a notice pending (R160). -/
theorem dropNotice_eq (s : State) : dropNotice s = { overrunRecord s with
    noticePending := s.noticePending || decide (s.flags.getLsbD 0 = false ∧ s.noticeMode = .event
      ∧ (overrunRecord s).flags &&& ~~~s.flags &&& s.eventMask ≠ 0) } := by
  have hmode : (overrunRecord s).modeInForce = .event ↔ s.flags.getLsbD 0 = false ∧ s.noticeMode = .event :=
    recordPost_modeInForce _ _ _ (countOverrun s)
  have hmask : (overrunRecord s).newlyMasked s.flags = true ↔ (overrunRecord s).flags &&& ~~~s.flags &&& s.eventMask ≠ 0 :=
    recordPost_newlyMasked _ _ _ (countOverrun s) s.flags
  have hpending : (overrunRecord s).noticePending = s.noticePending := (recordPost_settings _ _ _ (countOverrun s)).2.2
  have hdrop : dropNotice s = if (overrunRecord s).modeInForce = .event ∧ (overrunRecord s).newlyMasked s.flags
      then { overrunRecord s with noticePending := true } else overrunRecord s := rfl
  rw [hdrop]
  simp only [hmode, hmask, and_assoc]
  split
  next h => rw [decide_eq_true h, Bool.or_true]
  next h => rw [decide_eq_false h, Bool.or_false, ← hpending]

/-- The office transmit queue once a notice has been offered to it with room (R158). -/
def noticed (s : State) : List OfficeFrame :=
  match s.station with
  | none => s.officeQueue
  | some dst => s.officeQueue ++ [{ kind := .notice, frame := noticeFrame dst s.label s.flags s.faults.length }]

theorem sendNotice_of_unaddressed {s : State} (h : s.station = none) : sendNotice s = s := by
  simp only [sendNotice, h]

theorem sendNotice_of_room {s : State} (h : s.station = none ∨ (s.officeQueue.length < 512 ∧ 0 < s.freeSlots)) :
    sendNotice s = { s with officeQueue := noticed s } := by
  rcases Option.eq_none_or_eq_some s.station with hstation | ⟨dst, hstation⟩
  · have hqueue : noticed s = s.officeQueue := by simp only [noticed, hstation]
    rw [sendNotice_of_unaddressed hstation, hqueue]
  · have hroom : s.officeRoom 0 = true := (officeRoom_eq_true_iff s 0).mpr (h.resolve_left (by simp [hstation]))
    have hsend : sendNotice s = s.officePush .notice (noticeFrame dst s.label s.flags s.faults.length) := by
      simp only [sendNotice, hstation, if_pos hroom]
    have hqueue : noticed s = s.officeQueue ++ [{ kind := .notice, frame := noticeFrame dst s.label s.flags s.faults.length }] := by
      simp only [noticed, hstation]
    rw [hsend, hqueue]
    rfl

theorem sendNotice_of_full {s : State} (h : ¬ (s.station = none ∨ (s.officeQueue.length < 512 ∧ 0 < s.freeSlots))) :
    sendNotice s = dropNotice s := by
  obtain ⟨hstation, hfull⟩ := not_or.mp h
  obtain ⟨dst, hdst⟩ := Option.ne_none_iff_exists'.mp hstation
  have hroom : ¬ s.officeRoom 0 = true := fun hr => hfull ((officeRoom_eq_true_iff s 0).mp hr)
  simp only [sendNotice, hdst, if_neg hroom]

/-! ### The two notice expiries (R159, R160) -/

theorem exec_reportExpiry_idle {s : State} (hlive : s.rstLow = false) (h : s.reached s.reportExpiry = false) :
    exec .reportExpiry s = .next s := by
  rw [exec_of_live (c := .reportExpiry) rfl hlive, if_neg (by simp [h])]

theorem exec_noticeHoldoffExpiry_idle {s : State} (hlive : s.rstLow = false) (h : s.reached s.holdoffExpiry = false) :
    exec .noticeHoldoffExpiry s = .next s := by
  rw [exec_of_live (c := .noticeHoldoffExpiry) rfl hlive, if_neg (by simp [h])]

theorem exec_reportExpiry_streaming {s : State} (hlive : s.rstLow = false) (h : s.reached s.reportExpiry = true)
    (hmode : s.modeInForce = .streaming) : exec .reportExpiry s = .next (reportStreaming s) := by
  rw [exec_of_live (c := .reportExpiry) rfl hlive, if_pos h, hmode]

theorem exec_reportExpiry_event {s : State} (hlive : s.rstLow = false) (h : s.reached s.reportExpiry = true)
    (hmode : s.modeInForce = .event) : exec .reportExpiry s = .next (reportEvent s) := by
  rw [exec_of_live (c := .reportExpiry) rfl hlive, if_pos h, hmode]

/-- The state whose hold-off is over, no notice pending (R160). -/
def unheld (s : State) : State := { s with holdoffExpiry := none, noticePending := false }

theorem endHoldoff_eq (s : State) : endHoldoff s
    = if s.noticePending && s.maskedFlagSet then sendNotice (armNotice (unheld s)) else unheld s := rfl

theorem exec_noticeHoldoffExpiry_reached {s : State} (hlive : s.rstLow = false) (h : s.reached s.holdoffExpiry = true) :
    exec .noticeHoldoffExpiry s = .next (endHoldoff s) := by
  rw [exec_of_live (c := .noticeHoldoffExpiry) rfl hlive, if_pos h]

theorem modeInForce_eq_event_of_not_streaming {s : State} (h : s.modeInForce ≠ .streaming) : s.modeInForce = .event := by
  cases hmode : s.modeInForce with
  | event => rfl
  | streaming => exact absurd hmode h

theorem ne_zero_iff_getLsbD {w : Nat} (x : BitVec w) : x ≠ 0 ↔ ∃ n, n < w ∧ x.getLsbD n = true := by
  constructor
  · intro h
    by_contra hnone
    push Not at hnone
    refine h (BitVec.eq_of_getLsbD_eq fun n hn => ?_)
    simpa using hnone n hn
  · rintro ⟨n, hn, hbit⟩ rfl
    simp at hbit

theorem maskedFlagSet_iff_exists (s : State) :
    s.maskedFlagSet = true ↔ ∃ n, n < 11 ∧ s.flags.getLsbD n = true ∧ s.eventMask.getLsbD n = true := by
  rw [maskedFlagSet_iff, ne_zero_iff_getLsbD]
  simp only [BitVec.getLsbD_and, Bool.and_eq_true]

/-- Settles O48: both expiries by the mode in force, by the hold-off and by the room there is. -/
theorem noticeExpiriesAreTaken : Obligations.NoticeExpiriesAreTaken := by
  intro s hlive sent room streaming masked armed dropped
  have hmasked : s.maskedFlagSet = true ↔ masked := maskedFlagSet_iff_exists s
  have hstreaming : s.modeInForce = .streaming ↔ streaming := modeInForce_eq_streaming_iff s
  refine ⟨fun e he hreached => ?_, fun e he hreached => ⟨fun hpending hm hroom => ?_, fun hidle => ?_, fun hpending hm hfull => ?_⟩,
    fun e he hnot => exec_reportExpiry_idle hlive (by rw [he]; exact hnot),
    fun e he hnot => exec_noticeHoldoffExpiry_idle hlive (by rw [he]; exact hnot),
    fun he => exec_reportExpiry_idle hlive (by rw [he]; rfl), fun he => exec_noticeHoldoffExpiry_idle hlive (by rw [he]; rfl)⟩
  · rw [← he] at hreached
    have hexec (hs : ¬ streaming) : exec .reportExpiry s = .next (reportEvent s) :=
      exec_reportExpiry_event hlive hreached (modeInForce_eq_event_of_not_streaming fun h => hs (hstreaming.mp h))
    have hsend (hm : masked) (hidle : s.holdoffExpiry = none) : reportEvent s = sendNotice (armNotice s) := by
      simp only [reportEvent, if_pos (hmasked.mpr hm), hidle]
    refine ⟨fun hs hroom => ?_, fun hs hm hidle hroom => ?_, fun hs hm hbusy => ?_, fun hs hm => ?_, fun hs hfull => ?_,
      fun hs hm hidle hfull => ?_⟩
    · rw [exec_reportExpiry_streaming hlive hreached (hstreaming.mpr hs), reportStreaming, sendNotice_of_room hroom]
      rfl
    · rw [hexec hs, hsend hm hidle, sendNotice_of_room (s := armNotice s) hroom]
      rfl
    · obtain ⟨e', he'⟩ := Option.ne_none_iff_exists'.mp hbusy
      rw [hexec hs]
      simp only [reportEvent, if_pos (hmasked.mpr hm), he']
    · rw [hexec hs, reportEvent, if_neg fun h => hm (hmasked.mp h)]
    · rw [exec_reportExpiry_streaming hlive hreached (hstreaming.mpr hs), reportStreaming, sendNotice_of_full hfull, dropNotice_eq]
      rfl
    · rw [hexec hs, hsend hm hidle, sendNotice_of_full (s := armNotice s) hfull, dropNotice_eq]
      rfl
  all_goals rw [← he] at hreached
  all_goals rw [exec_noticeHoldoffExpiry_reached hlive hreached]
  · rw [endHoldoff_eq, if_pos (by rw [hpending, hmasked.mpr hm]; rfl), sendNotice_of_room (s := armNotice (unheld s)) hroom]
    rfl
  · have hnot : ¬ (s.noticePending && s.maskedFlagSet) = true := by
      rw [Bool.and_eq_true]
      rintro ⟨hp, hm⟩
      rcases hidle with hp' | hm'
      · rw [hp'] at hp
        cases hp
      · exact hm' (hmasked.mp hm)
    rw [endHoldoff_eq, if_neg hnot]
    rfl
  · rw [endHoldoff_eq, if_pos (by rw [hpending, hmasked.mpr hm]; rfl), sendNotice_of_full (s := armNotice (unheld s)) hfull, dropNotice_eq]
    rfl

end Sys2Proof.Proofs
end

section

namespace Sys2Proof.Proofs

open Sys2Proof Sys2Proof.Machine

/-! ### The record of a post (R150, R151) -/

theorem isFor_iff (r : FaultRecord) (k : FaultKind) (subject : Option Nat) :
    r.isFor k subject = true ↔ r.kind = k ∧ r.subject = subject := by
  rw [FaultRecord.isFor, Bool.and_eq_true, decide_eq_true_eq, decide_eq_true_eq]

theorem queuePost_of_held {k : FaultKind} {subject : Option Nat} {q : List FaultRecord} (h : ∃ r ∈ q, r.kind = k ∧ r.subject = subject)
    (detail : BitVec 32) (now : Tick) : queuePost k subject detail now q
      = (q.map fun r => if r.kind = k ∧ r.subject = subject then
          { r with count := min (r.count + 1) 65535, last := now, detail := detail } else r, true) := by
  have hany : q.any (fun r => r.isFor k subject) = true := by simpa only [List.any_eq_true, isFor_iff] using h
  rw [queuePost, if_pos hany]
  simp only [isFor_iff, FaultRecord.again]

theorem queuePost_of_new {k : FaultKind} {subject : Option Nat} {q : List FaultRecord}
    (h : ∀ r ∈ q, ¬ (r.kind = k ∧ r.subject = subject)) (detail : BitVec 32) (now : Tick) : queuePost k subject detail now q
      = if q.length < 64 then
          (q ++ [{ kind := k, subject := subject, detail := detail, count := 1, first := now, last := now }], true)
        else (q, false) := by
  have hany : ¬ q.any (fun r => r.isFor k subject) = true := by
    simp only [List.any_eq_true, isFor_iff]
    rintro ⟨r, hr, hsame⟩
    exact h r hr hsame
  rw [queuePost, if_neg hany]

/-- A record kept: the queue of the post, the kind's flag, and the pin (R150, R152). -/
theorem recordPost_of_kept {k : FaultKind} {subject : Option Nat} {d : BitVec 32} {s : State} {q : List FaultRecord}
    (h : queuePost k subject d s.tick s.faults = (q, true)) :
    recordPost k subject d s = { s with faults := q }.setFlags (s.flags ||| flagBit k.flag) := by
  simp only [recordPost, h, if_true]

theorem recordPost_of_lost {k : FaultKind} {subject : Option Nat} {d : BitVec 32} {s : State} {q : List FaultRecord}
    (h : queuePost k subject d s.tick s.faults = (q, false)) : recordPost k subject d s
      = { s with overflow := min (s.overflow + 1) 65535 }.setFlags (s.flags ||| flagBit k.flag ||| flagBit 10) := by
  simp only [recordPost, h, Bool.false_eq_true, if_false]
  rfl

/-! ### The notice of a post (R158, R160) -/

theorem newlySet_iff (flags old mask : BitVec 11) : flags &&& ~~~old &&& mask ≠ 0
    ↔ ∃ n, n < 11 ∧ mask.getLsbD n = true ∧ old.getLsbD n = false ∧ flags.getLsbD n = true := by
  rw [ne_zero_iff_getLsbD]
  refine exists_congr fun n => and_congr_right fun hn => ?_
  simp only [BitVec.getLsbD_and, BitVec.getLsbD_not, decide_eq_true hn, Bool.true_and, Bool.and_eq_true, Bool.not_eq_true']
  exact ⟨fun ⟨⟨hf, ho⟩, hm⟩ => ⟨hm, ho, hf⟩, fun ⟨hm, ho, hf⟩ => ⟨⟨hf, ho⟩, hm⟩⟩

/-- The post `r` of a state sets a flag of the event mask anew, in event mode (R160). -/
def NewFlag (s r : State) : Prop :=
  s.resetFlag = false ∧ s.noticeMode = .event ∧ ∃ n, n < 11 ∧ s.eventMask.getLsbD n = true
    ∧ s.flags.getLsbD n = false ∧ r.flags.getLsbD n = true

theorem newFlag_iff (k : FaultKind) (subject : Option Nat) (d : BitVec 32) (s : State) :
    (recordPost k subject d s).modeInForce = .event ∧ (recordPost k subject d s).newlyMasked s.flags = true
      ↔ NewFlag s (recordPost k subject d s) := by
  rw [recordPost_modeInForce, recordPost_newlyMasked, newlySet_iff, and_assoc]
  rfl

theorem post_of_unmasked {k : FaultKind} {subject : Option Nat} {d : BitVec 32} {s : State}
    (h : ¬ NewFlag s (recordPost k subject d s)) : post k subject d s = recordPost k subject d s :=
  if_neg fun hnew => h ((newFlag_iff k subject d s).mp hnew)

theorem post_of_newFlag {k : FaultKind} {subject : Option Nat} {d : BitVec 32} {s : State}
    (h : NewFlag s (recordPost k subject d s)) : post k subject d s = noticeOnSet (recordPost k subject d s) :=
  if_pos ((newFlag_iff k subject d s).mpr h)

theorem noticeOnSet_of_heldOff {s : State} (h : s.holdoffExpiry.isSome) : noticeOnSet s = { s with noticePending := true } := by
  obtain ⟨e, he⟩ := Option.isSome_iff_exists.mp h
  simp only [noticeOnSet, he]

theorem noticeOnSet_of_free {s : State} (h : s.holdoffExpiry = none) : noticeOnSet s = sendNotice (armNotice s) := by
  simp only [noticeOnSet, h]

/-- What a record leaves of the things that a notice is made of. -/
theorem recordPost_keeps (k : FaultKind) (subject : Option Nat) (d : BitVec 32) (s : State) :
    (recordPost k subject d s).station = s.station ∧ (recordPost k subject d s).label = s.label
      ∧ (recordPost k subject d s).officeQueue = s.officeQueue ∧ (recordPost k subject d s).freeSlots = s.freeSlots
      ∧ (recordPost k subject d s).holdoffExpiry = s.holdoffExpiry ∧ (recordPost k subject d s).counters = s.counters
      ∧ (recordPost k subject d s).eventMask = s.eventMask :=
  have h := recordPost_frame k subject d s
  ⟨(congrArg State.station h :), (congrArg State.label h :), (congrArg State.officeQueue h :), (congrArg State.freeSlots h :),
    (congrArg State.holdoffExpiry h :), (congrArg State.counters h :), (congrArg State.eventMask h :)⟩

theorem armNotice_recordPost (k : FaultKind) (subject : Option Nat) (d : BitVec 32) (s : State) :
    armNotice (recordPost k subject d s) = { recordPost k subject d s with
      holdoffExpiry := some (s.after s.noticeHoldoff), reportExpiry := some (s.after s.reportInterval) } := by
  have h := recordPost_frame k subject d s
  have hholdoff : (recordPost k subject d s).after (recordPost k subject d s).noticeHoldoff = s.after s.noticeHoldoff :=
    (congrArg (fun r : State => r.after r.noticeHoldoff) h :)
  have hreport : (recordPost k subject d s).after (recordPost k subject d s).reportInterval = s.after s.reportInterval :=
    (congrArg (fun r : State => r.after r.reportInterval) h :)
  rw [armNotice, hholdoff, hreport]

theorem noticed_of_addressed {s : State} {dst : Mac} (h : s.station = some dst) :
    noticed s = s.officeQueue ++ [{ kind := .notice, frame := noticeFrame dst s.label s.flags s.faults.length }] := by
  simp only [noticed, h]

theorem dropNotice_ite (s : State) : dropNotice s
    = if (overrunRecord s).modeInForce = .event ∧ (overrunRecord s).newlyMasked s.flags
      then { overrunRecord s with noticePending := true } else overrunRecord s := rfl

theorem dropNotice_of_newFlag {s : State} (h : NewFlag s (overrunRecord s)) :
    dropNotice s = { overrunRecord s with noticePending := true } :=
  (dropNotice_ite s).trans (if_pos ((newFlag_iff _ _ _ (countOverrun s)).mpr h))

theorem dropNotice_of_unmasked {s : State} (h : ¬ NewFlag s (overrunRecord s)) : dropNotice s = overrunRecord s :=
  (dropNotice_ite s).trans (if_neg fun hnew => h ((newFlag_iff _ _ _ (countOverrun s)).mp hnew))

/-- The record of a dropped notice that a post has made. -/
theorem overrunRecord_armNotice (k : FaultKind) (subject : Option Nat) (d : BitVec 32) (s : State) :
    overrunRecord (armNotice (recordPost k subject d s)) = recordPost .officeOverrun none (BitVec.ofNat 32 s.freeSlots) {
      recordPost k subject d s with
        holdoffExpiry := some (s.after s.noticeHoldoff), reportExpiry := some (s.after s.reportInterval)
        counters := { s.counters with officeOverrun := satInc s.counters.officeOverrun } } := by
  obtain ⟨-, -, -, hslots, -, hcounters, -⟩ := recordPost_keeps k subject d s
  have hfree : (armNotice (recordPost k subject d s)).freeSlots = s.freeSlots := hslots
  rw [overrunRecord, hfree, armNotice_recordPost, ← hcounters]
  rfl

theorem be16At_pair (a b : Byte) (bs : List Byte) : be16At (a :: b :: bs) 0 = a ++ b := rfl

/-- Where the fields of a notice stand (R158, R177). -/
theorem noticeFrame_layout (dst : Mac) (label : BitVec 16) (flags : BitVec 11) (depth : Nat) :
    let bs := (noticeFrame dst label flags depth).bytes
    bs.length = 26 ∧ be48At bs 0 = dst ∧ be48At bs 6 = (0x024C5800 : BitVec 32) ++ label ∧ be16At bs 12 = 0x88B5
      ∧ be16At bs 14 = label ∧ byteAt bs 16 = 0xFF ∧ byteAt bs 17 = 0 ∧ be16At bs 18 = 0 ∧ be16At bs 20 = 4
      ∧ be16At bs 22 = flags.setWidth 16 ∧ byteAt bs 24 = BitVec.ofNat 8 depth ∧ byteAt bs 25 = 0 := by
  simp [noticeFrame, bytes48, bytes16, num16, num8, bridgeAddress]
  simp only [be16At_pair]
  decide

/-- Settles O25: the record by what the queue holds, the notice by the hold-off, the station address and the room, and the codes. -/
theorem postAtTheFaultReporter : Obligations.PostAtTheFaultReporter := by
  refine ⟨fun k subject d s => ⟨fun hheld => ?_, fun hnew hroom => ?_, fun hnew hfull => ?_, recordPost_indicator k subject d s⟩,
    fun k subject d s => ⟨post_of_unmasked, fun hflag hheld => ?_, fun hflag hfree hstation => ?_,
      fun dst hflag hfree hstation hlen hslots => ?_⟩,
    fun k subject d s dst => ?_, fun k => ?_, noticeFrame_layout⟩
  · rw [recordPost_of_kept (queuePost_of_held hheld d s.tick)]
    exact ⟨rfl, rfl⟩
  · rw [recordPost_of_kept ((queuePost_of_new hnew d s.tick).trans (if_pos hroom))]
    exact ⟨rfl, rfl⟩
  · rw [recordPost_of_lost ((queuePost_of_new hnew d s.tick).trans (if_neg (by omega)))]
    exact ⟨rfl, rfl⟩
  · obtain ⟨-, -, -, -, hexpiry, -, -⟩ := recordPost_keeps k subject d s
    exact (post_of_newFlag hflag).trans (noticeOnSet_of_heldOff (by rw [hexpiry]; exact hheld))
  · obtain ⟨haddress, -, -, -, hexpiry, -, -⟩ := recordPost_keeps k subject d s
    exact ((post_of_newFlag hflag).trans (noticeOnSet_of_free (hexpiry.trans hfree))).trans
      ((sendNotice_of_unaddressed (s := armNotice _) (haddress.trans hstation)).trans (armNotice_recordPost k subject d s))
  · obtain ⟨haddress, hlabel, hqueue, hfreeSlots, hexpiry, -, -⟩ := recordPost_keeps k subject d s
    have hroom : (armNotice (recordPost k subject d s)).station = none ∨ ((armNotice (recordPost k subject d s)).officeQueue.length < 512
        ∧ 0 < (armNotice (recordPost k subject d s)).freeSlots) :=
      .inr ⟨by rw [show (armNotice (recordPost k subject d s)).officeQueue = s.officeQueue from hqueue]; exact hlen,
        by rw [show (armNotice (recordPost k subject d s)).freeSlots = s.freeSlots from hfreeSlots]; exact hslots⟩
    rw [post_of_newFlag hflag, noticeOnSet_of_free (hexpiry.trans hfree), sendNotice_of_room hroom,
      noticed_of_addressed (s := armNotice _) (haddress.trans hstation), armNotice_recordPost]
    simp only [hlabel, hqueue]
  · intro r newFlag dropped again hflag hfree hstation hfull
    obtain ⟨haddress, -, hqueue, hslots, hexpiry, -, hmask⟩ := recordPost_keeps k subject d s
    have hnoroom : ¬ ((armNotice r).station = none ∨ ((armNotice r).officeQueue.length < 512 ∧ 0 < (armNotice r).freeSlots)) := by
      rw [show (armNotice r).station = s.station from haddress, show (armNotice r).officeQueue = s.officeQueue from hqueue,
        show (armNotice r).freeSlots = s.freeSlots from hslots, hstation]
      simp
      omega
    have hpost : post k subject d s = dropNotice (armNotice r) :=
      (post_of_newFlag hflag).trans ((noticeOnSet_of_free (hexpiry.trans hfree)).trans (sendNotice_of_full hnoroom))
    have hdropped : overrunRecord (armNotice r) = dropped := overrunRecord_armNotice k subject d s
    have hagain : NewFlag (armNotice r) (overrunRecord (armNotice r)) ↔ again := by
      have hreset : (armNotice r).resetFlag = false := (recordPost_resetFlag k subject d s).trans hflag.1
      have hmode : (armNotice r).noticeMode = .event := (recordPost_settings k subject d s).1.trans hflag.2.1
      rw [NewFlag, hreset, hmode, hdropped, show (armNotice r).eventMask = s.eventMask from hmask]
      simp only [true_and]
      rfl
    rw [hpost]
    refine ⟨fun h => ?_, fun h => ?_⟩
    · rw [dropNotice_of_newFlag (hagain.mpr h), hdropped]
    · rw [dropNotice_of_unmasked (mt hagain.mp h), hdropped]
  · cases k <;> rfl

end Sys2Proof.Proofs
end

section

namespace Sys2Proof.Proofs

open Sys2Proof Sys2Proof.Machine

/-! ### The table commands (R6, R9, R10, R11, R101) -/

theorem entryArg_eq_some {b : Byte} {i : EntryId} (h : b.toNat = i.val) : entryArg b = some i := by
  rw [entryArg, dif_pos (by omega)]
  exact congrArg some (Fin.ext h)

theorem entryArg_eq_none {b : Byte} (h : 47 < b.toNat) : entryArg b = none := dif_neg (by omega)

theorem actionArg_eq_some {b : Byte} {a : IntervalAction} (h : b = if a = .drop then 0 else 1) : actionArg b = some a := by
  rw [h]
  cases a <;> rfl

theorem actionArg_eq_none {b : Byte} (h : 1 < b.toNat) : actionArg b = none := by
  have hall : ∀ b : Byte, 1 < b.toNat → actionArg b = none := by decide
  exact hall b h

theorem boolArg_eq_none {b : Byte} (h : 1 < b.toNat) : boolArg b = none := by
  have hrefused := (boolArg_refused b).mpr h
  simpa using hrefused

theorem opWriteInterval_refused {entry action : Byte} {base : BitVec 16} (h : 47 < entry.toNat ∨ 1 < action.toNat ∨ 1023 < base.toNat)
    (separator : BitVec 16) (ctx : CmdCtx) (s : State) : opWriteInterval entry separator action base ctx s = (s, .now .badArg []) := by
  unfold opWriteInterval
  split
  next hi ha hb =>
    rcases h with h | h | h
    · rw [entryArg_eq_none h] at hi
      cases hi
    · rw [actionArg_eq_none h] at ha
      cases ha
    · rw [tunnelArg_eq_none h] at hb
      cases hb
  next => rfl

theorem opReadInterval_refused {copy entry : Byte} (h : 1 < copy.toNat ∨ 47 < entry.toNat) (ctx : CmdCtx) (s : State) :
    opReadInterval copy entry ctx s = (s, .now .badArg []) := by
  unfold opReadInterval
  split
  next hc hi =>
    rcases h with h | h
    · rw [boolArg_eq_none h] at hc
      cases hc
    · rw [entryArg_eq_none h] at hi
      cases hi
  next => rfl

/-- An interval entry as READ_INTERVAL returns it (R9). -/
theorem intervalBytes_eq (v : Vector Interval 48) (i : EntryId) :
    num32 (separatorOf v i) ++ num8 v[i].action.code ++ num16 v[i].base.val
      = bytes32 (if i.val = 47 then 65536 else v[i].separator.setWidth 32) ++ [if v[i].action = .drop then 0 else 1]
        ++ bytes16 (BitVec.ofNat 16 v[i].base.val) := by
  have hseparator : BitVec.ofNat 32 (separatorOf v i) = if i.val = 47 then 65536 else v[i].separator.setWidth 32 := by
    rw [separatorOf]
    split
    · rfl
    · exact BitVec.ofNat_toNat _ _
  have haction : num8 v[i].action.code = [if v[i].action = .drop then 0 else 1] := by
    cases v[i].action <;> rfl
  rw [num32, hseparator, haction, num16]

theorem opReadInterval_eq {copy entry : Byte} {i : EntryId} (hi : entry.toNat = i.val) (hcopy : copy = 0 ∨ copy = 1) (ctx : CmdCtx)
    (s : State) : opReadInterval copy entry ctx s = (s, .now .ok
      (num32 (separatorOf (if copy = 0 then s.intervals else s.shadowIntervals) i)
        ++ num8 (if copy = 0 then s.intervals else s.shadowIntervals)[i].action.code
        ++ num16 (if copy = 0 then s.intervals else s.shadowIntervals)[i].base.val)) := by
  rcases hcopy with rfl | rfl
  · simp only [opReadInterval, entryArg_eq_some hi]
    rfl
  · simp only [opReadInterval, entryArg_eq_some hi]
    rfl

theorem groupFlags_byte : ∀ flags : Byte, (GroupFlags.ofByte flags).byte = flags &&& 0x0E := by decide

/-- Settles O52: each command by whether its arguments, or the shadow table, pass their check. -/
theorem tableCommands : Obligations.TableCommands := by
  intro h s ht q
  refine ⟨fun i b a entry action separator base hi ha hb => ?_, fun entry action separator base hbad => ?_,
    fun i copy entry hi hcopy => ?_, fun copy entry hbad => ?_, fun flags => ?_, fun hrise => ?_, fun hfall => ?_,
    fun offset port statusType => ⟨fun hoffset => ?_, fun hoffset => ?_⟩⟩
  · exact exec_answered rfl ht (by
      simp only [opWriteInterval, entryArg_eq_some hi, actionArg_eq_some ha, tunnelArg_eq_some hb]
      rfl)
  · exact exec_answered rfl ht (opWriteInterval_refused hbad separator _ q)
  · refine exec_answered rfl ht ((opReadInterval_eq hi hcopy _ q).trans ?_)
    rw [intervalBytes_eq]
    rcases hcopy with rfl | rfl <;> rfl
  · exact exec_answered rfl ht (opReadInterval_refused hbad _ q)
  · refine exec_answered rfl ht ?_
    rw [← groupFlags_byte]
    rfl
  · have hcheck : separatorsRise q.shadowIntervals = true := (separatorsRise_iff _).mpr hrise
    change Host.Outcome.next (s.live (commandRow h codeApplyTables opApplyTables)) = _
    rw [commandRow_taken h _ _ s ht, opApplyTables, if_pos hcheck]
    rfl
  · have hcheck : ¬ separatorsRise q.shadowIntervals = true := by
      rw [separatorsRise_iff]
      obtain ⟨i, j, hij, hj, hlt⟩ := hfall
      exact fun hrise => absurd (hrise i j hij hj) (not_le.mpr hlt)
    exact exec_answered rfl ht (if_neg hcheck)
  · exact exec_answered rfl ht (if_neg (not_lt.mpr hoffset))
  · exact exec_answered rfl ht (if_pos hoffset)

/-! ### The swap that an accepted APPLY_TABLES begins (R11, R107) -/

/-- Settles O53: the copy, the swap and the end by how far the command has come. -/
theorem tablesAreSwapped : Obligations.TablesAreSwapped := by
  intro src tag b s hlive
  refine ⟨fun hprogress => ?_, fun hprogress => ⟨{ swapGroups s with progress := some (.applyTables src tag b true) }, ?_, fun t => ?_,
    fun g => ⟨vecConst_getElem _ g.val g.isLt, ?_⟩, rfl⟩, fun hprogress => ?_, fun hprogress => ⟨?_, ?_, ?_⟩⟩
  · rw [exec_of_live (c := .intervalTableCopy) rfl hlive]
    simp only [hprogress]
  · rw [exec_of_live (c := .groupSwap) rfl hlive]
    simp only [hprogress]
  · exact swapGroups_tun s t
  · have htun (t : TunnelId) : State.tun { swapGroups s with progress := some (.applyTables src tag b true) } t
        = (s.tun t).regroup s.shadowGroupFlags := swapGroups_tun s t
    simp only [htun]
    exact swapGroups_list s g
  · rw [exec_of_live (c := .applyTablesComplete) rfl hlive]
    simp only [hprogress]
    rfl
  · rw [exec_of_live (c := .intervalTableCopy) rfl hlive]
    simp only [hprogress]
  · rw [exec_of_live (c := .groupSwap) rfl hlive]
    simp only [hprogress]
  · rw [exec_of_live (c := .applyTablesComplete) rfl hlive]
    simp only [hprogress]

end Sys2Proof.Proofs
end

section

namespace Sys2Proof.Proofs

open Sys2Proof Sys2Proof.Machine

/-! ### What WRITE_PROFILE stores (R28, R29) -/

theorem clamp_of_between {lo hi x : Nat} (h : lo ≤ x ∧ x ≤ hi) : clamp lo hi x = x := by
  rw [clamp, min_eq_right h.2, max_eq_right h.1]

theorem clamp_zero (hi x : Nat) : clamp 0 hi x = min hi x := Nat.zero_max _

/-- The seed bounds are stored in their order, the other fields each by itself. -/
theorem clamped_eq (v : Profile) : v.clamped = {
    frameLimit := max 1048576 (min 4294967295 v.frameLimit)
    ageLimit := max 60 (min 65535 v.ageLimit)
    rateBeta := max 1 (min 255 v.rateBeta)
    response := max 10 (min 6000 v.response)
    retryLimit := min 7 v.retryLimit
    derivation := max 1 (min 1000 v.derivation)
    retryHoldoff := max 1 (min 65535 v.retryHoldoff)
    grace := max 10 (min 65535 v.grace)
    probeOpen := max 10 (min 65535 v.probeOpen)
    probeClosed := max 10 (min 65535 v.probeClosed)
    fastBeta := max 1 (min 255 v.fastBeta)
    baseBeta := max 1 (min 255 v.baseBeta)
    slowBeta := max 1 (min 255 v.slowBeta)
    threshold := max 1 (min 65535 v.threshold)
    suspectCount := max 1 (min 15 v.suspectCount)
    missLimit := max 1 (min 15 v.missLimit)
    seedCount := max 1 (min 16 v.seedCount)
    seedMin := if max 1 (min 65535 v.seedMin) ≤ max 1 (min 65535 v.seedMax) then max 1 (min 65535 v.seedMin)
      else max 1 (min 65535 v.seedMax)
    seedMax := if max 1 (min 65535 v.seedMin) ≤ max 1 (min 65535 v.seedMax) then max 1 (min 65535 v.seedMax)
      else max 1 (min 65535 v.seedMin)
    reseedBand := max 1 (min 65535 v.reseedBand)
    settleThreshold := min 65535 v.settleThreshold
    settleSamples := max 1 (min 255 v.settleSamples)
    releasePct := max 1 (min 127 v.releasePct)
    dormancyTimeout := max 60 (min 65535 v.dormancyTimeout)
    dataLimit := max 1 (min 64 v.dataLimit) } := by
  rw [Profile.clamped, clamp_zero, clamp_zero, min_def (clamp 1 65535 v.seedMin), max_def (clamp 1 65535 v.seedMin)]
  rfl

/-- Values in range are stored as they are. -/
theorem clamped_of_inRange {v : Profile} (h : InRange v) : v.clamped = v := by
  obtain ⟨frameLimit, ageLimit, rateBeta, response, retryLimit, derivation, retryHoldoff, grace, probeOpen, probeClosed, fastBeta,
    baseBeta, slowBeta, threshold, suspectCount, missLimit, seedCount, ⟨seedLow, seedOrder, seedHigh⟩, reseedBand, settleThreshold,
    settleSamples, releasePct, dormancyTimeout, dataLimit⟩ := h
  rw [Profile.clamped, clamp_of_between frameLimit, clamp_of_between ageLimit, clamp_of_between rateBeta, clamp_of_between response,
    clamp_of_between ⟨Nat.zero_le _, retryLimit⟩, clamp_of_between derivation, clamp_of_between retryHoldoff, clamp_of_between grace,
    clamp_of_between probeOpen, clamp_of_between probeClosed, clamp_of_between fastBeta, clamp_of_between baseBeta,
    clamp_of_between slowBeta, clamp_of_between threshold, clamp_of_between suspectCount, clamp_of_between missLimit,
    clamp_of_between seedCount, clamp_of_between ⟨seedLow, seedOrder.trans seedHigh⟩, clamp_of_between ⟨seedLow.trans seedOrder, seedHigh⟩,
    min_eq_left seedOrder, max_eq_right seedOrder, clamp_of_between reseedBand, clamp_of_between ⟨Nat.zero_le _, settleThreshold⟩,
    clamp_of_between settleSamples, clamp_of_between releasePct, clamp_of_between dormancyTimeout, clamp_of_between dataLimit]

/-! ### The enabled tunnels that name a profile (R29, R30) -/

theorem enabledNaming_eq (s : State) (p : ProfileId) : s.enabledNaming p
    = ((List.finRange 1024).filter fun t => decide ((s.tun t).cfg.enabled = true ∧ (s.tun t).cfg.profile = p)).length := by
  rw [State.enabledNaming, vector_filter_length]
  refine congrArg List.length (List.filter_congr fun t _ => ?_)
  rw [Bool.eq_iff_iff, Bool.and_eq_true, beq_iff_eq, decide_eq_true_eq]
  rfl

theorem enabledNaming_ne_zero_iff (s : State) (p : ProfileId) :
    s.enabledNaming p ≠ 0 ↔ ∃ t, (s.tun t).cfg.enabled = true ∧ (s.tun t).cfg.profile = p := by
  rw [enabledNaming_eq, Ne, List.length_eq_zero_iff, List.filter_eq_nil_iff]
  simp only [List.mem_finRange, decide_eq_true_eq, true_implies, not_forall, not_not]

theorem profileArg_eq_some {b : Byte} {p : ProfileId} (h : b.toNat = p.val) : profileArg b = some p := by
  rw [profileArg, dif_pos (by omega)]
  exact congrArg some (Fin.ext h)

theorem profileArg_eq_none {b : Byte} (h : 15 < b.toNat) : profileArg b = none := dif_neg (by omega)

/-! ### The layouts of READ_PROFILE and READ_TUNNEL (R26, R29, R30, R176) -/

theorem profile_layout (w : Profile) : let bs := w.bytes
    let one := fun i => byteAt bs i
    let two := fun i => be16At bs i
    bs.length = 41 ∧ be32At bs 0 = BitVec.ofNat 32 w.frameLimit ∧ two 4 = BitVec.ofNat 16 w.ageLimit
      ∧ one 6 = BitVec.ofNat 8 w.rateBeta ∧ two 7 = BitVec.ofNat 16 w.response ∧ one 9 = BitVec.ofNat 8 w.retryLimit
      ∧ two 10 = BitVec.ofNat 16 w.derivation ∧ two 12 = BitVec.ofNat 16 w.retryHoldoff ∧ two 14 = BitVec.ofNat 16 w.grace
      ∧ two 16 = BitVec.ofNat 16 w.probeOpen ∧ two 18 = BitVec.ofNat 16 w.probeClosed ∧ one 20 = BitVec.ofNat 8 w.fastBeta
      ∧ one 21 = BitVec.ofNat 8 w.baseBeta ∧ one 22 = BitVec.ofNat 8 w.slowBeta ∧ two 23 = BitVec.ofNat 16 w.threshold
      ∧ one 25 = BitVec.ofNat 8 w.suspectCount ∧ one 26 = BitVec.ofNat 8 w.missLimit ∧ one 27 = BitVec.ofNat 8 w.seedCount
      ∧ two 28 = BitVec.ofNat 16 w.seedMin ∧ two 30 = BitVec.ofNat 16 w.seedMax ∧ two 32 = BitVec.ofNat 16 w.reseedBand
      ∧ two 34 = BitVec.ofNat 16 w.settleThreshold ∧ one 36 = BitVec.ofNat 8 w.settleSamples
      ∧ one 37 = BitVec.ofNat 8 w.releasePct ∧ two 38 = BitVec.ofNat 16 w.dormancyTimeout
      ∧ one 40 = BitVec.ofNat 8 w.dataLimit := by
  refine ⟨profile_bytes_length w, ?_⟩
  simp only [profile_bytes_eq, num8, num16, num32, bytes16, bytes32, List.cons_append, List.nil_append, byteAt_cons_succ,
    be16At_cons_succ, byteAt_cons_zero, be16At_field, be32At_field, and_self]

theorem bool8_eq (b : Bool) : bool8 b = [if b then 1 else 0] := by cases b <;> rfl

/-- The master secret, generation 0 and the two other generations, each after the byte that says whether it is there (R26). -/
theorem tunnel_bytes_eq (x : Tunnel) : x.bytes =
    bool8 x.cfg.enabled ++ (num8 x.cfg.profile.val ++ (bytes48 x.cfg.peer ++ (num8 x.cfg.role.code ++ (num16 x.cfg.reference.val
    ++ (num16 x.cfg.weight.val ++ (num8 x.cfg.shadowGroup.val ++ (num8 x.cfg.activeGroup.val ++ (bool8 x.cfg.snoop
    ++ (num8 x.keyState.code ++ (bool8 x.secret.isSome ++ (bytes16 ((x.secret.map MasterSecret.epoch).getD 0)
    ++ (bool8 x.gen0.isSome ++ (bool8 x.cur.isSome ++ ([(x.cur.map CurGen.number).getD 0]
    ++ (num32 ((x.cur.map CurGen.lastSeq).getD 0) ++ (num16 ((x.cur.map CurGen.age).getD 0)
    ++ (bool8 x.prev.isSome ++ ([(x.prev.map PrevGen.number).getD 0]
    ++ (num8 x.shop.code ++ (bool8 x.dormant ++ (bool8 x.renewBefore ++ (num32 x.rate ++ (num8 x.health.state.code
    ++ (bytes32 (signed32 x.health.comp) ++ (num16 x.egress.length ++ (num8 x.dataFrames
    ++ (bytes32 x.counters.framesOut ++ (bytes32 x.counters.framesIn ++ (bytes32 x.counters.noKey
    ++ (bytes32 x.counters.exhausted ++ (bytes32 x.counters.tailDrop ++ (bytes32 x.counters.tagFail
    ++ (bytes32 x.counters.replay ++ (bytes32 x.counters.tooOld ++ (bytes32 x.counters.unknownGen
    ++ bytes32 x.counters.staleControl))))))))))))))))))))))))))))))))))) := by
  delta Tunnel.bytes
  cases x.secret <;> cases x.cur <;> cases x.prev <;> simp only [List.append_assoc] <;> rfl

theorem tunnel_bytes_length (x : Tunnel) : x.bytes.length = 86 := by
  simp only [tunnel_bytes_eq, bool8_eq, num8, num16, num32, bytes16, bytes32, bytes48, List.length_append, List.length_cons,
    List.length_nil]

/-- Settles O54: the profile by whether an enabled tunnel names it, and the three layouts. -/
theorem profileAndReadCommands : Obligations.ProfileAndReadCommands := by
  refine ⟨fun h s ht => ⟨fun p b v hb => ?_, fun b v hb => ⟨?_, ?_⟩, fun t b hb => ?_, fun b hb => ?_⟩, profile_layout, fun x => ?_⟩
  · intro low high w
    have hw : v.clamped = w := clamped_eq v
    refine ⟨fun hnamed => ?_, fun hfree => ?_, hw ▸ clamped_inRange v, fun hv => hw ▸ clamped_of_inRange hv, ?_⟩
    · refine exec_answered rfl ht ?_
      have hnonzero : (s.learned h).enabledNaming p ≠ 0 := (enabledNaming_ne_zero_iff _ p).mpr hnamed
      simp only [opWriteProfile, profileArg_eq_some hb, if_pos hnonzero]
    · refine exec_answered rfl ht ?_
      have hzero : ¬ (s.learned h).enabledNaming p ≠ 0 := mt (enabledNaming_ne_zero_iff _ p).mp hfree
      simp only [opWriteProfile, profileArg_eq_some hb, if_neg hzero, hw]
      rfl
    · refine exec_answered rfl ht ?_
      simp only [opReadProfile, profileArg_eq_some hb, enabledNaming_eq]
      rfl
  · exact exec_answered rfl ht (by simp only [opWriteProfile, profileArg_eq_none hb])
  · exact exec_answered rfl ht (by simp only [opReadProfile, profileArg_eq_none hb])
  · exact exec_answered rfl ht (by simp only [opReadTunnel, tunnelArg_eq_some hb]; rfl)
  · exact exec_answered rfl ht (by simp only [opReadTunnel, tunnelArg_eq_none hb])
  · intro bs flag
    refine ⟨⟨tunnel_bytes_length x, ?_⟩, ?_⟩
    all_goals simp only [bs, flag, tunnel_bytes_eq, bool8_eq, num8, num16, num32, bytes16, bytes32, bytes48, List.cons_append, List.nil_append,
      byteAt_cons_succ, be16At_cons_succ, be32At_cons_succ, be48At_cons_succ, byteAt_cons_zero, be16At_field, be32At_field, be48At_field, signed32, and_self,
      and_true, true_and]
    · cases x.cfg.role <;> rfl
    · refine ⟨?_, ?_, ?_⟩
      · cases x.keyState <;> rfl
      · cases x.shop <;> rfl
      · cases x.health.state <;> rfl

end Sys2Proof.Proofs
end

section

namespace Sys2Proof.Proofs

open Sys2Proof Sys2Proof.Machine

/-! ### The states of an uplink port (R93, R95, R96) -/

/-- The uplink as it enters Errored, its frame in transmission lost (R95, R104). -/
def erroredBy (c : ErrorCause) (now : Tick) (x : Uplink) : Uplink :=
  { lostTx x with link := .errored, cause := c, erroredSince := some now }

/-- The record of an entry into Errored, and the count of receive errors cleared with it (R95). -/
theorem enterErrored_eq (u : UplinkId) (c : ErrorCause) (s : State) : enterErrored u c s =
    let r := post .uplinkDown (some u.val) c.detail (s.setUplink u (erroredBy c s.tick (s.uplink u)))
    r.setUplink u { r.uplink u with rxErrors := 0 } := by
  have hentry : ((loseTx u s).modUplink u fun x => { x with link := .errored, cause := c, erroredSince := some s.tick })
      = s.setUplink u (erroredBy c s.tick (s.uplink u)) := by
    rw [loseTx_eq, State.modUplink, State.uplink_setUplink_self, State.setUplink_setUplink]
    rfl
  rw [enterErrored, hentry]
  rfl

/-- The uplink as it comes back to Up, still with the tick of its error (R96). -/
def returned (x : Uplink) : Uplink := { x with link := .up, cause := .none }

theorem autoReturn_eq {u : UplinkId} {s : State} {since : Tick} (h : (s.uplink u).erroredSince = some since) : autoReturn u s
    = (post .uplinkUp (some u.val) (s.tick - since) (s.setUplink u (returned (s.uplink u)))).setUplink u
        { returned (s.uplink u) with erroredSince := none } := by
  have hentry : (post .uplinkUp (some u.val) (s.tick - since) (s.setUplink u (returned (s.uplink u)))).uplink u
      = returned (s.uplink u) := by rw [post_uplink, State.uplink_setUplink_self]
  have hreturn : autoReturn u s = (post .uplinkUp (some u.val) (s.tick - since) (s.setUplink u (returned (s.uplink u)))).modUplink u
      fun x => { x with erroredSince := none } := by
    rw [autoReturn, h]
    rfl
  rw [hreturn, State.modUplink, hentry]

/-- The uplink with a good frame delivered (R93). -/
def delivering (f : CarrierFrame) (arrival : BitVec 32) (x : Uplink) : Uplink :=
  { x with delivered := x.delivered ++ [{ frame := f, arrival := arrival }], rxCount := satInc x.rxCount, rxErrors := 0 }

theorem deliver_eq (u : UplinkId) (f : CarrierFrame) (s : State) :
    deliver u f s = s.setUplink u (delivering f s.clock (s.uplink u)) := rfl

/-- The uplink with one more receive error (R93). -/
def rxFailed (x : Uplink) : Uplink := { x with rxError := satInc x.rxError, rxErrors := x.rxErrors + 1 }

theorem receiveUp_of_good {u : UplinkId} {f : CarrierFrame} {fcsOk : Bool} (h : f.good fcsOk = true) (s : State) :
    receiveUp u f fcsOk s = deliver u f s := if_pos h

theorem receiveUp_of_bad {u : UplinkId} {f : CarrierFrame} {fcsOk : Bool} (h : f.good fcsOk = false) (s : State) :
    receiveUp u f fcsOk s = if 16 ≤ (s.uplink u).rxErrors + 1 then enterErrored u .receiveErrors (s.setUplink u (rxFailed (s.uplink u)))
      else s.setUplink u (rxFailed (s.uplink u)) := by
  have hcount : ((s.setUplink u (rxFailed (s.uplink u))).uplink u).rxErrors = (s.uplink u).rxErrors + 1 := by
    rw [State.uplink_setUplink_self]
    rfl
  rw [receiveUp, if_neg (by rw [h]; nofun), ← hcount]
  rfl

theorem receiveUp_of_few {u : UplinkId} {f : CarrierFrame} {fcsOk : Bool} {s : State} (h : f.good fcsOk = false)
    (hfew : (s.uplink u).rxErrors + 1 < 16) : receiveUp u f fcsOk s = s.setUplink u (rxFailed (s.uplink u)) := by
  rw [receiveUp_of_bad h, if_neg (by omega)]

/-- The sixteenth receive error in a row takes the port to Errored (R95). -/
theorem receiveUp_of_sixteenth {u : UplinkId} {f : CarrierFrame} {fcsOk : Bool} {s : State} (h : f.good fcsOk = false)
    (hlast : (s.uplink u).rxErrors = 15) : receiveUp u f fcsOk s =
      let r := post .uplinkDown (some u.val) 2 (s.setUplink u (erroredBy .receiveErrors s.tick (rxFailed (s.uplink u))))
      r.setUplink u { r.uplink u with rxErrors := 0 } := by
  rw [receiveUp_of_bad h, if_pos (by omega), enterErrored_eq, State.uplink_setUplink_self, State.setUplink_setUplink]
  rfl

theorem receiveErrored_of_returning {u : UplinkId} {f : CarrierFrame} {fcsOk : Bool} {s : State} (hgood : f.good fcsOk = true)
    (hauto : (s.uplink u).autoRestart = true) (hcause : (s.uplink u).cause = .receiveErrors) :
    receiveErrored u f fcsOk s = serveAll (deliver u f (autoReturn u s)) :=
  if_pos (by rw [hgood, hauto, hcause]; rfl)

theorem receiveErrored_of_discarding {u : UplinkId} {f : CarrierFrame} {fcsOk : Bool} {s : State}
    (h : ¬ ((s.uplink u).autoRestart = true ∧ (s.uplink u).cause = .receiveErrors ∧ f.good fcsOk = true)) :
    receiveErrored u f fcsOk s = s := by
  refine if_neg fun hall => h ?_
  obtain ⟨hleft, hcause⟩ := (Bool.and_eq_true _ _).mp hall
  obtain ⟨hgood, hauto⟩ := (Bool.and_eq_true _ _).mp hleft
  exact ⟨hauto, beq_iff_eq.mp hcause, hgood⟩

section

variable {u : UplinkId} {f : CarrierFrame} {fcsOk : Bool} {sub : Fin 100} {s : State} (hlive : s.rstLow = false)

include hlive

theorem exec_receive_up (h : (s.uplink u).link = .up) :
    exec (.uplinkFrameReceive u f fcsOk sub) s = .next (receiveUp u f fcsOk (s.clockAt sub)) := by
  rw [exec_of_live (c := .uplinkFrameReceive u f fcsOk sub) rfl hlive]
  simp only [h]

theorem exec_receive_errored (h : (s.uplink u).link = .errored) :
    exec (.uplinkFrameReceive u f fcsOk sub) s = .next (receiveErrored u f fcsOk (s.clockAt sub)) := by
  rw [exec_of_live (c := .uplinkFrameReceive u f fcsOk sub) rfl hlive]
  simp only [h]

theorem exec_receive_stopped (h : (s.uplink u).link = .stopped) :
    exec (.uplinkFrameReceive u f fcsOk sub) s = .next (s.clockAt sub) := by
  rw [exec_of_live (c := .uplinkFrameReceive u f fcsOk sub) rfl hlive]
  simp only [h]

end

/-- The uplink with its carrier signal followed (R93). -/
def carrying (b : Bool) (x : Uplink) : Uplink := { x with carrier := b }

theorem exec_carrierLoss_of_present {u : UplinkId} {s : State} (hlive : s.rstLow = false) (h : (s.uplink u).carrier = true) :
    exec (.carrierLoss u) s = .next (carrierLost u (s.setUplink u (carrying false (s.uplink u)))) := by
  change Host.Outcome.next (if (s.uplink u).carrier then (s.setUplink u (carrying false (s.uplink u))).live (carrierLost u)
    else s.setUplink u (carrying false (s.uplink u))) = _
  rw [if_pos h, State.live_high (s := s.setUplink u (carrying false (s.uplink u))) hlive]

theorem exec_carrierLoss_of_absent {u : UplinkId} {s : State} (h : (s.uplink u).carrier = false) :
    exec (.carrierLoss u) s = .next s := by
  have hsame : carrying false (s.uplink u) = s.uplink u := by rw [carrying, ← h]
  change Host.Outcome.next (if (s.uplink u).carrier then (s.setUplink u (carrying false (s.uplink u))).live (carrierLost u)
    else s.setUplink u (carrying false (s.uplink u))) = _
  rw [if_neg (by rw [h]; nofun), hsame, State.setUplink_uplink]

theorem exec_carrierReturn_of_absent {u : UplinkId} {s : State} (hlive : s.rstLow = false) (h : (s.uplink u).carrier = false) :
    exec (.carrierReturn u) s = .next (carrierReturned u (s.setUplink u (carrying true (s.uplink u)))) := by
  change Host.Outcome.next (if (s.uplink u).carrier then s.setUplink u (carrying true (s.uplink u))
    else (s.setUplink u (carrying true (s.uplink u))).live (carrierReturned u)) = _
  rw [if_neg (by rw [h]; nofun), State.live_high (s := s.setUplink u (carrying true (s.uplink u))) hlive]

theorem exec_carrierReturn_of_present {u : UplinkId} {s : State} (h : (s.uplink u).carrier = true) :
    exec (.carrierReturn u) s = .next s := by
  have hsame : carrying true (s.uplink u) = s.uplink u := by rw [carrying, ← h]
  change Host.Outcome.next (if (s.uplink u).carrier then s.setUplink u (carrying true (s.uplink u))
    else (s.setUplink u (carrying true (s.uplink u))).live (carrierReturned u)) = _
  rw [if_pos h, hsame, State.setUplink_uplink]

theorem carrierLost_of_up {u : UplinkId} {s : State} (h : (s.uplink u).link = .up) :
    carrierLost u s = enterErrored u .carrierLoss s := by simp only [carrierLost, h]

theorem carrierLost_of_errored {u : UplinkId} {s : State} (h : (s.uplink u).link = .errored) :
    carrierLost u s = s.setUplink u { s.uplink u with cause := .carrierLoss } := by simp only [carrierLost, h, State.modUplink]

theorem carrierLost_of_stopped {u : UplinkId} {s : State} (h : (s.uplink u).link = .stopped) : carrierLost u s = s := by
  simp only [carrierLost, h]

theorem carrierFrame_good_iff (f : CarrierFrame) (fcsOk : Bool) : f.good fcsOk = true ↔
    fcsOk = true ∧ 64 ≤ 14 + f.head.length + f.tail + 4 ∧ 14 + f.head.length + f.tail + 4 ≤ 1560 := by
  rw [CarrierFrame.good, Bool.and_eq_true, Bool.and_eq_true, decide_eq_true_eq, decide_eq_true_eq, and_assoc]
  rfl

/-- Settles O31: each event by the link state, and the carrier events by what the signal was before. -/
theorem uplinkPortEvents : Obligations.UplinkPortEvents := by
  refine ⟨carrierFrame_good_iff, fun u f fcsOk sub s hlive => ?_, fun u s hlive => ?_⟩
  · intro q x
    refine ⟨fun hup hgood => ?_, fun hup hbad hfew => ?_, fun hup hbad hlast => ?_, fun since herr hauto hcause hgood hsince => ?_,
      fun hidle => ?_⟩
    · rw [exec_receive_up hlive hup, receiveUp_of_good hgood]
      rfl
    · rw [exec_receive_up hlive hup, receiveUp_of_few (s := q) hbad hfew]
      rfl
    · have hentry : rxFailed x = { x with rxError := satInc x.rxError, rxErrors := 16 } := by rw [rxFailed, hlast]
      rw [exec_receive_up hlive hup, receiveUp_of_sixteenth (s := q) hbad hlast, show rxFailed (q.uplink u) = _ from hentry]
      rfl
    · rw [exec_receive_errored hlive herr, receiveErrored_of_returning (s := q) hgood hauto hcause, autoReturn_eq (s := q) hsince, deliver_eq,
        State.uplink_setUplink_self, State.setUplink_setUplink]
      have hclock (y : Uplink) : State.clock ((post .uplinkUp (some u.val) (q.tick - since)
          (q.setUplink u (returned (q.uplink u)))).setUplink u y) = q.clock :=
        post_clock _ _ _ (q.setUplink u (returned (q.uplink u)))
      rw [hclock]
      rfl
    · rcases hidle with hstopped | ⟨herr, hnot⟩
      · exact exec_receive_stopped hlive hstopped
      · rw [exec_receive_errored hlive herr, receiveErrored_of_discarding (s := q) hnot]
  · intro x
    have hself (b : Bool) : (s.setUplink u (carrying b (s.uplink u))).uplink u = carrying b (s.uplink u) := State.uplink_setUplink_self _ _ _
    refine ⟨fun hon hup => ?_, fun hon herr => ?_, fun hon hstopped => ?_, fun since hoff herr hauto hcause hsince => ?_,
      fun hoff hnot => ?_, exec_carrierLoss_of_absent, exec_carrierReturn_of_present⟩
    · rw [exec_carrierLoss_of_present hlive hon, carrierLost_of_up (by rw [hself]; exact hup), enterErrored_eq, hself,
        State.setUplink_setUplink]
      rfl
    · rw [exec_carrierLoss_of_present hlive hon, carrierLost_of_errored (by rw [hself]; exact herr), hself, State.setUplink_setUplink]
      rfl
    · rw [exec_carrierLoss_of_present hlive hon, carrierLost_of_stopped (by rw [hself]; exact hstopped)]
      rfl
    · rw [exec_carrierReturn_of_absent hlive hoff, carrierReturned, if_pos (by rw [hself]; exact ⟨herr, hauto, hcause⟩),
        autoReturn_eq (since := since) (by rw [hself]; exact hsince), hself, State.setUplink_setUplink]
      rfl
    · rw [exec_carrierReturn_of_absent hlive hoff, carrierReturned, if_neg (by rw [hself]; exact hnot)]
      rfl

end Sys2Proof.Proofs
end

section

namespace Sys2Proof.Proofs

open Sys2Proof Sys2Proof.Machine

/-! ### The members of a group, and their turn (R101, R103) -/

/-- The place of an uplink in the order in which the arbiter serves, cyclically after the pointer (R103). -/
def turnAfter (p : Option UplinkId) (v : UplinkId) : Nat :=
  match p with
  | none => v.val
  | some p => if p < v then v.val else v.val + 4

theorem turnAfter_some (p v : UplinkId) : turnAfter (some p) v = if p < v then v.val else v.val + 4 := rfl

theorem mem_members {s : State} {g u : UplinkId} : u ∈ s.members g ↔ groupStart s.groupFlags u = g := by
  rw [State.members, List.mem_filter, decide_eq_true_eq]
  exact and_iff_right (List.mem_finRange u)

theorem members_pairwise (s : State) (g : UplinkId) : (s.members g).Pairwise (· < ·) :=
  (List.pairwise_lt_finRange 4).filter _

theorem mem_roundRobin {s : State} {g u : UplinkId} : u ∈ s.roundRobin g ↔ u ∈ s.members g := by
  unfold State.roundRobin
  split
  · rfl
  next p _ =>
    rw [List.mem_append, List.mem_filter, List.mem_filter, decide_eq_true_eq, decide_eq_true_eq, ← and_or_left]
    exact and_iff_left (lt_or_ge p u)

/-- The arbiter's order is that of the turns. -/
theorem roundRobin_pairwise (s : State) (g : UplinkId) :
    (s.roundRobin g).Pairwise fun u v => turnAfter s.pointers[g] u < turnAfter s.pointers[g] v := by
  unfold State.roundRobin
  split
  next h =>
    rw [h]
    exact members_pairwise s g
  next p h =>
    rw [h]
    refine List.pairwise_append.mpr ⟨?_, ?_, fun u hu v hv => ?_⟩
    · refine ((members_pairwise s g).filter _).imp_of_mem fun hu hv huv => ?_
      rw [turnAfter_some, turnAfter_some, if_pos (of_decide_eq_true (List.mem_filter.mp hu).2),
        if_pos (of_decide_eq_true (List.mem_filter.mp hv).2)]
      exact huv
    · refine ((members_pairwise s g).filter _).imp_of_mem fun hu hv huv => ?_
      rw [turnAfter_some, turnAfter_some, if_neg (not_lt.mpr (of_decide_eq_true (List.mem_filter.mp hu).2)),
        if_neg (not_lt.mpr (of_decide_eq_true (List.mem_filter.mp hv).2))]
      exact Nat.add_lt_add_right huv 4
    · rw [turnAfter_some, turnAfter_some, if_pos (of_decide_eq_true (List.mem_filter.mp hu).2),
        if_neg (not_lt.mpr (of_decide_eq_true (List.mem_filter.mp hv).2))]
      omega

/-- The first member in the arbiter's order that can serve is the one whose turn comes first (R103). -/
theorem roundRobin_find_iff (s : State) (g u : UplinkId) (can : UplinkId → Bool) : (s.roundRobin g).find? can = some u
    ↔ u ∈ s.members g ∧ can u = true ∧ ∀ v ∈ s.members g, can v = true → turnAfter s.pointers[g] u ≤ turnAfter s.pointers[g] v := by
  rw [find?_eq_some_iff_of_pairwise (roundRobin_pairwise s g)]
  simp only [mem_roundRobin]

theorem groupLive_eq_true_iff (s : State) (g : UplinkId) :
    s.groupLive g = true ↔ ∃ v ∈ s.members g, (s.uplink v).link = .up := by
  simp only [State.groupLive, List.any_eq_true, State.isUp, beq_iff_eq]

theorem isDiscarding_eq_true_iff (s : State) (u : UplinkId) :
    s.isDiscarding u = true ↔ (s.uplink u).link = .errored ∧ (s.uplink u).discardOnError = true := by
  rw [State.isDiscarding, Bool.and_eq_true, beq_iff_eq]

/-! ### The end of a transmission and the discards (R104, R105) -/

theorem discardOne_of_live {g : UplinkId} {s : State} (h : s.groupLive g = true) : discardOne g s = s := if_pos h

theorem discardOne_some {g u : UplinkId} {t : TunnelId} {rest : List TunnelId} {f : CarrierFrame} {left : List CarrierFrame} {s : State}
    (hdead : ¬ s.groupLive g = true) (hl : s.list g = t :: rest) (hu : (s.roundRobin g).find? s.isDiscarding = some u)
    (he : (s.tun t).egress = f :: left) : discardOne g s
      = ((takeHead g t rest left s).modUplink u fun x => { x with discards := satInc x.discards }).point g u := by
  simp only [discardOne, if_neg hdead, hl, hu, he]

theorem discardOne_none {g : UplinkId} {s : State} (h : s.list g = [] ∨ (s.roundRobin g).find? s.isDiscarding = none) :
    discardOne g s = s := by
  unfold discardOne
  split
  · rfl
  · split
    next hl hu => rcases h with h | h <;> simp_all
    next => rfl

/-- Settles O33: the completion by what is in transmission, the discard by the members' states and the list. -/
theorem transmissionEndsAndGroupDiscards : Obligations.TransmissionEndsAndGroupDiscards := by
  refine ⟨fun u s hlive => ⟨fun f htx => ?_, fun hidle => ?_⟩, fun g u t tail f left s hlive => ?_⟩
  · rw [exec_of_live (c := .uplinkTxComplete u) rfl hlive, if_pos (by rw [htx]; rfl)]
    rfl
  · rw [exec_of_live (c := .uplinkTxComplete u) rfl hlive, if_neg (by rw [hidle]; nofun)]
  · intro x enters turn
    refine ⟨fun hdown hlist hfind hqueue => ?_, fun hnone => ?_, fun hholding => ?_, isDiscarding_eq_true_iff s u,
      roundRobin_find_iff s g u s.isDiscarding⟩
    · have hdead : ¬ s.groupLive g = true := by
        rw [groupLive_eq_true_iff]
        rintro ⟨v, hv, hup⟩
        exact hdown v hv hup
      rw [exec_of_live (c := .groupDiscard g) rfl hlive, discardOne_some hdead hlist hfind hqueue, State.modUplink, takeHead_uplink,
        takeHead_eq]
      rfl
    · rw [exec_of_live (c := .groupDiscard g) rfl hlive]
      rcases hnone with hup | hempty
      · rw [discardOne_of_live ((groupLive_eq_true_iff s g).mpr hup)]
      · rw [discardOne_none (.inl hempty)]
    · have hfind : (s.roundRobin g).find? s.isDiscarding = none := by
        refine List.find?_eq_none.mpr fun v hv hdiscarding => ?_
        obtain ⟨herr, hset⟩ := (isDiscarding_eq_true_iff s v).mp hdiscarding
        rcases hholding v (mem_roundRobin.mp hv) with hok | hclear
        · exact hok herr
        · rw [hclear] at hset
          cases hset
      rw [exec_of_live (c := .groupDiscard g) rfl hlive, discardOne_none (.inr hfind)]

end Sys2Proof.Proofs
end

section

namespace Sys2Proof.Proofs

open Sys2Proof Sys2Proof.Machine

/-! ### A group served to the end (R103) -/

theorem isFree_eq_true_iff (s : State) (u : UplinkId) : s.isFree u = true ↔ (s.uplink u).link = .up ∧ (s.uplink u).tx = none := by
  rw [State.isFree, Bool.and_eq_true, State.isUp, beq_iff_eq, Option.isNone_iff_eq_none]

/-- Group `g` has no waiting tunnel or no free member, and so nothing to grant (R103). -/
def Served (g : UplinkId) (s : State) : Prop := s.list g = [] ∨ ∀ u ∈ s.members g, s.isFree u = false

theorem grantOne_of_served {g : UplinkId} {s : State} (h : Served g s) : grantOne g s = s :=
  grantOne_none g s (h.imp_right fun hfree => List.find?_eq_none.mpr fun u hu => by simp [hfree u (mem_roundRobin.mp hu)])

/-- A grant that is possible, of a list whose head has frames (R102). -/
theorem exists_grant {g : UplinkId} {s : State} (hw : s.WaitingOk) (h : ¬ Served g s) : ∃ t rest u f left,
    s.list g = t :: rest ∧ (s.roundRobin g).find? s.isFree = some u ∧ (s.tun t).egress = f :: left := by
  obtain ⟨hlist, hfree⟩ := not_or.mp h
  obtain ⟨t, rest, hl⟩ := List.exists_cons_of_ne_nil hlist
  obtain ⟨v, hv, hvfree⟩ : ∃ v ∈ s.members g, s.isFree v = true := by
    by_contra hnone
    push Not at hnone
    exact hfree fun v hv => by simpa using hnone v hv
  obtain ⟨u, hu⟩ := Option.isSome_iff_exists.mp (List.find?_isSome.mpr ⟨v, mem_roundRobin.mpr hv, hvfree⟩)
  obtain ⟨f, left, hqueue⟩ := List.exists_cons_of_ne_nil (((hw g).2 t).mp (by simp [hl])).1
  exact ⟨t, rest, u, f, left, hl, hu, hqueue⟩

theorem mem_of_roundRobin_find {s : State} {g u : UplinkId} {can : UplinkId → Bool} (h : (s.roundRobin g).find? can = some u) :
    u ∈ s.members g ∧ can u = true :=
  ⟨mem_roundRobin.mp (List.mem_of_find?_eq_some h), List.find?_some h⟩

theorem grantOne_eq {g u : UplinkId} {t : TunnelId} {rest : List TunnelId} {f : CarrierFrame} {left : List CarrierFrame} {s : State}
    (hl : s.list g = t :: rest) (hu : (s.roundRobin g).find? s.isFree = some u) (he : (s.tun t).egress = f :: left) :
    grantOne g s = ((takeHead g t rest left s).setUplink u (transmitting f (s.uplink u))).point g u := by
  rw [grantOne_some g u t rest f left s hl hu he, State.modUplink, takeHead_uplink]
  rfl

theorem takeHead_list_ne {g g' : UplinkId} (h : g' ≠ g) (t : TunnelId) (rest : List TunnelId) (left : List CarrierFrame) (s : State) :
    (takeHead g t rest left s).list g' = s.list g' := by
  rw [takeHead_eq, State.list_setList, if_neg h]
  rfl

theorem grantOne_members (g g' : UplinkId) (s : State) : (grantOne g s).members g' = s.members g' :=
  (congrArg (fun r : State => r.members g') (grantOne_frame g s) :)

/-- What a grant leaves of the other groups: their lists, and the uplinks of their members (R101, R103). -/
theorem grantOne_others {g g' : UplinkId} {s : State} (hw : s.WaitingOk) (hg : g' ≠ g) :
    (grantOne g s).list g' = s.list g' ∧ ∀ v ∈ s.members g', (grantOne g s).uplink v = s.uplink v := by
  by_cases hserved : Served g s
  · rw [grantOne_of_served hserved]
    exact ⟨rfl, fun _ _ => rfl⟩
  · obtain ⟨t, rest, u, f, left, hl, hu, he⟩ := exists_grant hw hserved
    rw [grantOne_eq hl hu he]
    refine ⟨takeHead_list_ne hg t rest left s, fun v hv => ?_⟩
    have hne : v ≠ u := by
      rintro rfl
      exact hg ((mem_members.mp hv).symm.trans (mem_members.mp (mem_of_roundRobin_find hu).1))
    change ((takeHead g t rest left s).setUplink u (transmitting f (s.uplink u))).uplink v = _
    rw [State.uplink_setUplink, if_neg hne, takeHead_uplink]

theorem served_grantOne {g g' : UplinkId} {s : State} (hw : s.WaitingOk) (h : Served g' s) : Served g' (grantOne g s) := by
  by_cases hg : g' = g
  · rw [hg] at h ⊢
    rw [grantOne_of_served h]
    exact h
  · obtain ⟨hlist, huplink⟩ := grantOne_others hw hg
    refine h.imp (hlist.trans ·) fun hfree v hv => ?_
    rw [grantOne_members] at hv
    rw [State.isFree, State.isUp, huplink v hv]
    exact hfree v hv

/-- How many members of group `g` are free. -/
def freeMembers (g : UplinkId) (s : State) : Nat := (s.members g).countP s.isFree

theorem served_of_no_free {g : UplinkId} {s : State} (h : freeMembers g s = 0) : Served g s :=
  .inr fun u hu => by simpa using List.countP_eq_zero.mp h u hu

theorem countP_lt_of_imp {α : Type} {p q : α → Bool} (himp : ∀ a, p a = true → q a = true) {l : List α} {u : α} (hu : u ∈ l)
    (hq : q u = true) (hp : p u = false) : l.countP p < l.countP q := by
  induction l with
  | nil => cases hu
  | cons a l ih =>
    rw [List.countP_cons, List.countP_cons]
    rcases List.mem_cons.mp hu with rfl | hl
    · have hle := List.countP_mono_left (l := l) fun a _ => himp a
      simp only [hp, hq, Bool.false_eq_true, if_false, if_true]
      omega
    · have hlt := ih hl
      cases ha : p a with
      | false => simp only [Bool.false_eq_true, if_false]; omega
      | true => simp only [himp a ha, if_true]; omega

/-- A grant that is made leaves one free member fewer. -/
theorem freeMembers_grantOne {g : UplinkId} {s : State} (hw : s.WaitingOk) (h : ¬ Served g s) :
    freeMembers g (grantOne g s) < freeMembers g s := by
  obtain ⟨t, rest, u, f, left, hl, hu, he⟩ := exists_grant hw h
  obtain ⟨hmem, hfree⟩ := mem_of_roundRobin_find hu
  have huplink (v : UplinkId) : (grantOne g s).uplink v = if v = u then transmitting f (s.uplink u) else s.uplink v := by
    rw [grantOne_eq hl hu he]
    change ((takeHead g t rest left s).setUplink u (transmitting f (s.uplink u))).uplink v = _
    rw [State.uplink_setUplink, takeHead_uplink]
  have hbusy : (grantOne g s).isFree u = false := by
    rw [State.isFree, huplink, if_pos rfl]
    exact Bool.and_false _
  have hless (v : UplinkId) (hv : (grantOne g s).isFree v = true) : s.isFree v = true := by
    by_cases hvu : v = u
    · rw [hvu]
      exact hfree
    · rw [State.isFree, State.isUp, huplink, if_neg hvu] at hv
      exact hv
  rw [freeMembers, grantOne_members]
  exact countP_lt_of_imp hless hmem hfree hbusy

theorem freeMembers_le (g : UplinkId) (s : State) : freeMembers g s ≤ 4 :=
  List.countP_le_length.trans ((List.length_filter_le _ _).trans_eq (by rw [List.length_finRange]))

/-- Four grants serve a group whose members are at most four. -/
theorem served_iterate {g : UplinkId} (n : Nat) : ∀ s : State, s.WaitingOk → freeMembers g s ≤ n → Served g ((grantOne g)^[n] s) := by
  induction n with
  | zero => exact fun s _ hn => served_of_no_free (Nat.le_zero.mp hn)
  | succ n ih =>
    intro s hw hn
    rw [Function.iterate_succ_apply]
    by_cases h : Served g s
    · rw [grantOne_of_served h, Function.iterate_fixed (grantOne_of_served h)]
      exact h
    · exact ih _ ((keeps_grantOne g s).waiting hw) (by have := freeMembers_grantOne hw h; omega)

theorem served_serve {g : UplinkId} {s : State} (hw : s.WaitingOk) : Served g (serve g s) :=
  served_iterate 4 s hw (freeMembers_le g s)

theorem served_serve_other {g g' : UplinkId} {s : State} (hw : s.WaitingOk) (h : Served g' s) : Served g' (serve g s) := by
  have w1 := (keeps_grantOne g s).waiting hw
  have w2 := (keeps_grantOne g _).waiting w1
  have w3 := (keeps_grantOne g _).waiting w2
  exact served_grantOne w3 (served_grantOne w2 (served_grantOne w1 (served_grantOne hw h)))

/-- The grants of an event leave no group with both a free member and a waiting tunnel (R103). -/
theorem served_serveAll {s : State} (hw : s.WaitingOk) (g : UplinkId) : Served g (serveAll s) := by
  have w0 : (serve 0 s).WaitingOk := (keeps_serve 0 s).waiting hw
  have w1 : (serve 1 (serve 0 s)).WaitingOk := (keeps_serve 1 _).waiting w0
  have w2 : (serve 2 (serve 1 (serve 0 s))).WaitingOk := (keeps_serve 2 _).waiting w1
  have hall : serveAll s = serve 3 (serve 2 (serve 1 (serve 0 s))) := rfl
  rw [hall]
  have h0 : Served 0 (serve 3 (serve 2 (serve 1 (serve 0 s)))) := served_serve_other w2 (served_serve_other w1 (served_serve_other w0 (served_serve hw)))
  have h1 : Served 1 (serve 3 (serve 2 (serve 1 (serve 0 s)))) := served_serve_other w2 (served_serve_other w1 (served_serve w0))
  have h2 : Served 2 (serve 3 (serve 2 (serve 1 (serve 0 s)))) := served_serve_other w2 (served_serve w1)
  have h3 : Served 3 (serve 3 (serve 2 (serve 1 (serve 0 s)))) := served_serve w2
  match g with
  | 0 => exact h0
  | 1 => exact h1
  | 2 => exact h2
  | 3 => exact h3

theorem served_enterIfWaiting {g : UplinkId} {t : TunnelId} {s : State} (h : Served g s) : Served g (enterIfWaiting t s) := by
  unfold enterIfWaiting
  split
  · exact h
  · exact h

theorem served_settle {s : State} (hw : s.WaitingOk) (t : TunnelId) (g : UplinkId) : Served g (settle t s) :=
  served_enterIfWaiting (served_serveAll hw g)

/-- The grants of an event, group by group. -/
theorem serveAll_eq_foldl (s : State) : serveAll s
    = [0, 0, 0, 0, 1, 1, 1, 1, 2, 2, 2, 2, 3, 3, 3, 3].foldl (fun q g => grantOne g q) s := by
  simp only [serveAll, serve, List.foldl_cons, List.foldl_nil]

/-! ### Groups (R101) -/

theorem groupStart_le (fl : GroupFlags) (u : UplinkId) : groupStart fl u ≤ u := by
  obtain ⟨u1, u2, u3⟩ := fl
  revert u1 u2 u3 u
  decide

/-- Settles O32: a grant by what the list and the arbiter hold, the arbiter's order, the lists, and a group served to the end. -/
theorem groupsAndGrants : Obligations.GroupsAndGrants := by
  refine ⟨fun g u t tail f left s hlive => ?_, fun g u s can => ?_, ⟨fun fl => ⟨rfl, rfl, rfl, rfl⟩, fun t f s => ?_⟩, fun t s => ?_⟩
  · intro x enters
    refine ⟨fun hlist hfind hqueue => ?_, fun hnone => ?_, ?_⟩
    · rw [exec_of_live (c := .grant g) rfl hlive, grantOne_eq hlist hfind hqueue, takeHead_eq]
      rfl
    · rw [exec_of_live (c := .grant g) rfl hlive, grantOne_of_served hnone]
    · rw [exec_of_live (c := .grant g) rfl hlive]
  · exact ⟨mem_members, fun h => (mem_members.mp h).ge.trans (groupStart_le s.groupFlags u), isFree_eq_true_iff s u, roundRobin_find_iff s g u can⟩
  · intro x g q
    refine ⟨?_, rfl, fun hw => ⟨waiting_enqueue hw t f, (keeps_flush t s).waiting hw, fun g' => ?_⟩⟩
    · by_cases h : x.egress = []
      · have hq : q = s.setTun t { s.tun t with egress := [f] } := by
          simp only [q, h, List.nil_append]
          rfl
        rw [if_pos h, enqueue_of_empty t f s h, hq]
      · rw [if_neg h, enqueue_of_waiting t f s h]
    · exact not_mem_of_empty ((keeps_flush t s).waiting hw) (by rw [flush_tun]) g'
  · intro r
    have hr : serveAll s = r := rfl
    clear_value r
    have hsettle : settle t s = enterIfWaiting t r := by rw [settle, hr]
    refine ⟨⟨[0, 0, 0, 0, 1, 1, 1, 1, 2, 2, 2, 2, 3, 3, 3, 3], ?_⟩, ?_, ?_, fun hw => ⟨?_, (keeps_settle t s).waiting hw,
      fun g => ⟨?_, served_settle hw t g⟩⟩⟩
    · rw [← hr, serveAll_eq_foldl]
    · rw [← hr]
      exact serveAll_frame s
    · rw [hsettle]
      exact enterIfWaiting_eq t r
    · rw [← hr]
      exact (keeps_serveAll s).waiting hw
    · rw [← hr]
      exact served_serveAll hw g

end Sys2Proof.Proofs
end

section

namespace Sys2Proof.Proofs

open Sys2Proof Sys2Proof.Machine

/-! ### What a delivered frame names and matches (R41, R42) -/

theorem ofBytes_eq_none {bs : List Byte} (h : bs.length ≠ 12) : TunnelHeader.ofBytes bs = none := if_neg h

theorem wellFormedHeader_of_short {f : CarrierFrame} (h : f.head.length ≠ 12) : wellFormedHeader f = none := by
  rw [wellFormedHeader, ofBytes_eq_none h]

theorem wellFormedHeader_of_header {f : CarrierFrame} {h : TunnelHeader} (hread : TunnelHeader.ofBytes f.head = some h) :
    wellFormedHeader f = if h.wellFormed f.tail then (tunnelArg h.tunnel).map fun t => (h, t) else none := by
  rw [wellFormedHeader, hread]

theorem wellFormedHeader_eq_some_iff {f : CarrierFrame} {h g : TunnelHeader} {t : TunnelId}
    (hread : TunnelHeader.ofBytes f.head = some h) :
    wellFormedHeader f = some (g, t) ↔ h.wellFormed f.tail = true ∧ tunnelArg h.tunnel = some t ∧ g = h := by
  rw [wellFormedHeader_of_header hread]
  by_cases hwhole : h.wellFormed f.tail = true
  · simp [hwhole, eq_comm]
  · simp [hwhole]

theorem inboundKind_iff (k : BitVec 4) : inboundKind k = true ↔ k = 1 ∨ k = 2 ∨ k = 3 ∨ k = 5 ∨ k = 6 := by
  simp only [inboundKind, kindData, kindProbe, kindEcho, kindAccept, kindAsk, Bool.or_eq_true, beq_iff_eq, or_assoc]

/-- Generation 0 carries control frames alone, among the kinds a shop may send (R41). -/
theorem notUnderBootstrap_iff {k : BitVec 4} (g : BitVec 8) (hkind : inboundKind k = true) :
    (!(g == 0 && (k == kindData || k == kindProbe || k == kindEcho))) = true ↔ (g = 0 → k = 5 ∨ k = 6) := by
  by_cases hg : g = 0
  · rcases (inboundKind_iff k).mp hkind with rfl | rfl | rfl | rfl | rfl <;> simp [hg, kindData, kindProbe, kindEcho]
  · simp only [beq_eq_false_iff_ne.mpr hg, Bool.false_and, Bool.not_false, hg, false_implies]

/-- The length field by kind (R41, R175). -/
theorem lengthByKind_iff {k : BitVec 4} (n : Nat) (hkind : inboundKind k = true) :
    (if k = kindData then decide (14 ≤ n) && decide (n ≤ 1514) else decide (n = controlLength k)) = true ↔
      (k = 1 → 14 ≤ n ∧ n ≤ 1514) ∧ (k = 2 ∨ k = 3 → n = 4) ∧ (k = 5 → n = 34) ∧ (k = 6 → n = 2) := by
  rcases (inboundKind_iff k).mp hkind with rfl | rfl | rfl | rfl | rfl <;>
    simp [kindData, controlLength, kindOffer, kindAccept, kindAsk]

theorem wellFormed_iff (h : TunnelHeader) (tail : Nat) : h.wellFormed tail = true ↔
    h.version = 1 ∧ (h.kind = 1 ∨ h.kind = 2 ∨ h.kind = 3 ∨ h.kind = 5 ∨ h.kind = 6) ∧ h.tunnel.toNat ≤ 1023
      ∧ h.sequence ≠ 0 ∧ (h.generation = 0 → h.kind = 5 ∨ h.kind = 6) ∧ (h.generation ≠ 0 → h.epoch = 0)
      ∧ (h.kind = 1 → 14 ≤ h.length.toNat ∧ h.length.toNat ≤ 1514)
      ∧ (h.kind = 2 ∨ h.kind = 3 → h.length.toNat = 4) ∧ (h.kind = 5 → h.length.toNat = 34)
      ∧ (h.kind = 6 → h.length.toNat = 2) ∧ h.length.toNat + 16 ≤ tail := by
  by_cases hkind : inboundKind h.kind = true
  · have hepoch : (!(h.generation != 0 && h.epoch != 0)) = true ↔ (h.generation ≠ 0 → h.epoch = 0) := by simp [Classical.or_iff_not_imp_left]
    rw [TunnelHeader.wellFormed]
    simp only [Bool.and_eq_true _ _, hkind, ← inboundKind_iff, true_and]
    rw [notUnderBootstrap_iff _ hkind, lengthByKind_iff _ hkind, hepoch]
    simp only [beq_iff_eq, decide_eq_true_eq, bne_iff_ne, and_assoc, true_and, ne_eq]
  · simp only [TunnelHeader.wellFormed, ← inboundKind_iff, hkind, Bool.and_false, Bool.false_and, Bool.false_eq_true, false_and,
      and_false]

/-- A header that names no tunnel above 1023 names one. -/
theorem exists_wellFormedHeader_iff {f : CarrierFrame} {h : TunnelHeader} (hread : TunnelHeader.ofBytes f.head = some h) :
    (∃ t, wellFormedHeader f = some (h, t)) ↔ h.wellFormed f.tail = true := by
  constructor
  · rintro ⟨t, ht⟩
    exact ((wellFormedHeader_eq_some_iff hread).mp ht).1
  · intro hwhole
    have hbound : h.tunnel.toNat < 1024 := Nat.lt_succ_of_le ((wellFormed_iff h f.tail).mp hwhole).2.2.1
    exact ⟨⟨h.tunnel.toNat, hbound⟩, (wellFormedHeader_eq_some_iff hread).mpr ⟨hwhole, dif_pos hbound, rfl⟩⟩

theorem matching_of_bootstrap {x : Tunnel} {h : TunnelHeader} (hgen : h.generation = 0) (m : Match) (k : KeyContext) :
    x.matching h = some (m, k) ↔ m = .gen0 ∧ ∃ g, x.gen0 = some g ∧ g.epoch = h.epoch ∧ k = g.ctx := by
  rw [Tunnel.matching, if_pos hgen]
  rcases Option.eq_none_or_eq_some x.gen0 with hnone | ⟨g, hg⟩
  · simp [hnone]
  · by_cases hepoch : g.epoch = h.epoch <;> simp [hg, hepoch, eq_comm]

/-- Another generation than 0 is the current one of its number, or else the previous one (R42). -/
theorem matching_of_generation {x : Tunnel} {h : TunnelHeader} (hgen : h.generation ≠ 0) (m : Match) (k : KeyContext) :
    x.matching h = some (m, k) ↔ (m = .current ∧ ∃ c, x.cur = some c ∧ c.number = h.generation ∧ k = c.ctx)
      ∨ (m = .previous ∧ (∀ c, x.cur = some c → c.number ≠ h.generation)
          ∧ ∃ p, x.prev = some p ∧ p.number = h.generation ∧ k = p.ctx) := by
  rw [Tunnel.matching, if_neg hgen]
  by_cases hcur : ∃ c, x.cur = some c ∧ c.number = h.generation
  · obtain ⟨c, hc, hnumber⟩ := hcur
    simp [hc, hnumber, Option.filter_some, eq_comm]
  · have hother : ∀ c, x.cur = some c → c.number ≠ h.generation := fun c hc hnumber => hcur ⟨c, hc, hnumber⟩
    have hfilter : x.cur.filter (fun c => c.number == h.generation) = none := by
      simpa [Option.filter_eq_none_iff] using hother
    have hcurrent : ¬ (m = .current ∧ ∃ c, x.cur = some c ∧ c.number = h.generation ∧ k = c.ctx) :=
      fun ⟨_, c, hc, hnumber, _⟩ => hother c hc hnumber
    rw [hfilter, or_iff_right hcurrent, and_iff_right hother]
    rcases Option.eq_none_or_eq_some x.prev with hnone | ⟨p, hp⟩
    · simp [hnone]
    · by_cases hnumber : p.number = h.generation <;> simp [hp, hnumber, Option.filter_some, @eq_comm _ m, @eq_comm _ k]

/-! ### The frames that are dropped (R40 to R44) -/

/-- INBOUND_TUNNEL_FRAME takes the oldest delivered frame off its uplink. -/
theorem exec_inbound_of_head {u : UplinkId} {d : Delivered} {rest : List Delivered} {s : State} (hlive : s.rstLow = false)
    (hhead : (s.uplink u).delivered = d :: rest) : exec (.inboundTunnelFrame u) s
      = .next (takeDelivered d (s.setUplink u { s.uplink u with delivered := rest })) := by
  rw [exec_of_live (c := .inboundTunnelFrame u) rfl hlive]
  simp only [hhead, State.modUplink]

theorem takeDelivered_of_header {d : Delivered} {s : State} {h : TunnelHeader} {t : TunnelId} (htype : d.frame.etherType = 0x88B6)
    (hheader : wellFormedHeader d.frame = some (h, t)) : takeDelivered d s = takeAtTunnel t h d s := by
  simp only [takeDelivered, if_pos (show d.frame.etherType = typeTunnel from htype), hheader]

theorem not_inactive {x : Tunnel} (henabled : x.cfg.enabled = true) (hsecret : x.keyState ≠ .noSecret) :
    ¬ (x.cfg.enabled = false ∨ x.keyState = .noSecret) := by simp [henabled, hsecret]

theorem takeAtTunnel_of_unknown {t : TunnelId} {h : TunnelHeader} {d : Delivered} {s : State}
    (henabled : (s.tun t).cfg.enabled = true) (hsecret : (s.tun t).keyState ≠ .noSecret) (hmatch : (s.tun t).matching h = none) :
    takeAtTunnel t h d s = s.modTunCounters t fun c => { c with unknownGen := satInc c.unknownGen } := by
  simp only [takeAtTunnel, if_neg (not_inactive henabled hsecret), hmatch]

theorem takeAtTunnel_of_matching {t : TunnelId} {h : TunnelHeader} {d : Delivered} {s : State} {m : Match} {k : KeyContext}
    (henabled : (s.tun t).cfg.enabled = true) (hsecret : (s.tun t).keyState ≠ .noSecret)
    (hmatch : (s.tun t).matching h = some (m, k)) :
    (k.opens h d.frame = none → takeAtTunnel t h d s = tagFail t h.sequence s)
    ∧ (k.opens h d.frame ≠ none → k.window.judge h.sequence.toNat = .replay → takeAtTunnel t h d s = replayed t h.sequence s)
    ∧ (k.opens h d.frame ≠ none → k.window.judge h.sequence.toNat = .tooOld →
        takeAtTunnel t h d s = s.modTunCounters t fun c => { c with tooOld := satInc c.tooOld }) := by
  have hactive := not_inactive henabled hsecret
  refine ⟨fun hclosed => ?_, fun hopen hjudge => ?_, fun hopen hjudge => ?_⟩
  · simp only [takeAtTunnel, if_neg hactive, hmatch, hclosed]
  all_goals
    obtain ⟨body, hbody⟩ := Option.ne_none_iff_exists'.mp hopen
    simp only [takeAtTunnel, if_neg hactive, hmatch, hbody, hjudge]

/-- Settles O34: the checks of a delivered frame in their order, and what a frame names and matches. -/
theorem inboundFrameIsDropped : Obligations.InboundFrameIsDropped := by
  refine ⟨fun u d rest s hlive hhead => ?_, fun f h hread => ⟨?_, fun g t hheader => ?_⟩,
    fun f hshort => wellFormedHeader_of_short hshort, fun x h m k => ?_⟩
  · have hexec := exec_inbound_of_head hlive hhead
    intro q
    refine ⟨fun htype => ?_, fun htype hheader => ?_, fun h t htype hheader => ?_⟩
    · rw [hexec, takeDelivered, if_neg (show ¬ d.frame.etherType = typeTunnel from htype)]
      rfl
    · rw [hexec, takeDelivered, if_pos (show d.frame.etherType = typeTunnel from htype), hheader]
      rfl
    · rw [takeDelivered_of_header htype hheader] at hexec
      intro x
      refine ⟨fun hidle => ?_, fun henabled hsecret hmatch => ?_, fun m k henabled hsecret hmatch => ?_⟩
      · rw [hexec, takeAtTunnel, if_pos (by exact hidle)]
        rfl
      · rw [hexec, takeAtTunnel_of_unknown (t := t) (d := d) (s := q) henabled hsecret hmatch]
        rfl
      · obtain ⟨htag, hreplay, hold⟩ := takeAtTunnel_of_matching (t := t) (h := h) (d := d) (s := q) henabled hsecret hmatch
        refine ⟨fun hclosed => ?_, fun hopen hjudge => ?_, fun hopen hjudge => ?_⟩
        · rw [hexec, htag hclosed]
          rfl
        · rw [hexec, hreplay hopen hjudge]
          rfl
        · rw [hexec, hold hopen hjudge]
          rfl
  · rw [exists_wellFormedHeader_iff hread, wellFormed_iff]
  · obtain ⟨-, htunnel, heq⟩ := (wellFormedHeader_eq_some_iff hread).mp hheader
    exact ⟨heq, val_of_dite htunnel⟩
  · by_cases hgen : h.generation = 0
    · rw [matching_of_bootstrap hgen]
      simp [hgen]
    · rw [matching_of_generation hgen]
      simp only [hgen, false_and, and_false, false_or, true_and, not_false_eq_true, ne_eq]

end Sys2Proof.Proofs
end

section

namespace Sys2Proof.Proofs

open Sys2Proof Sys2Proof.Machine

/-! ### The tick counter, its expiries and the clock (R81, R115) -/

theorem after_toNat (s : State) (d : Nat) : (s.after d).toNat = (s.tick.toNat + d) % 4294967296 := by
  rw [State.after, BitVec.toNat_add, BitVec.toNat_ofNat, Nat.add_mod_mod]

theorem reached_iff (s : State) (e : Tick) :
    s.reached (some e) = true ↔ (s.tick.toNat + 4294967296 - e.toNat) % 4294967296 < 2147483648 := by
  have hle : e.toNat ≤ 2 ^ 32 := e.isLt.le
  rw [State.reached, decide_eq_true_eq, BitVec.toNat_sub, Nat.add_comm (2 ^ 32 - e.toNat), ← Nat.add_sub_assoc hle]
  rfl

theorem clockAt_of_part {s : State} {part : Nat} (sub : Fin 100) (hpart : part < 100)
    (hclock : s.clock = s.tick * 100 + BitVec.ofNat 32 part) :
    s.clockAt sub = { s with clock := s.tick * 100 + BitVec.ofNat 32 (max part sub.val) } := by
  have hnow : (s.clock - s.tick * 100).toNat = part := by
    rw [hclock, add_sub_cancel_left, BitVec.toNat_ofNat, Nat.mod_eq_of_lt (by omega)]
  simp only [State.clockAt, hnow]

/-! ### The due tests of a rate interval's end (R83, R88, R91) -/

/-- The state at a rate interval's end as the due tests begin: every filter moved, every sample count 0 (R81, R83). -/
def measured (s : State) : State :=
  { s with intervalEnd := false, tunnels := vecMap (Tunnel.endInterval s.profiles) s.tunnels }

/-- The due test of the tunnel is met (R84 to R88). -/
def Due (s : State) (t : TunnelId) : Prop := (s.tun t).dueTestable = true ∧ ∃ c, (s.tun t).cur = some c
  ∧ renewalDue c (s.prof t) (s.tun t).rate (leadTime s (s.prof t)) = true

/-- A due tunnel that takes a draw (R88, R91). -/
def Draws (s : State) (t : TunnelId) : Prop := Due s t ∧ (s.tun t).health.state ≠ .faultedSilent

/-- The end of a delay drawn as `x` from the generator (R91). -/
def drawnTick (s : State) (x : BitVec 16) : Tick := s.after ((s.jitterBase + x.toNat % s.jitterRange) % 65536)

theorem dueTest_of_not_due {s : State} {t : TunnelId} (h : ¬ Due s t) : dueTest s t = s := by
  unfold dueTest
  split
  next c hcur =>
    refine if_neg fun hdue => h ?_
    obtain ⟨htest, hworn⟩ := (Bool.and_eq_true _ _).mp hdue
    exact ⟨htest, c, hcur, hworn⟩
  next => rfl

theorem dueTest_of_silent {s : State} {t : TunnelId} (h : Due s t) (hsilent : (s.tun t).health.state = .faultedSilent) :
    dueTest s t = s.setTun t { s.tun t with keyState := .held } := by
  obtain ⟨htest, c, hcur, hworn⟩ := h
  simp only [dueTest, hcur, htest, hworn, Bool.and_self, if_true, if_pos hsilent, State.modTun]

theorem dueTest_of_draws {s : State} {t : TunnelId} (h : Draws s t) :
    dueTest s t = (stepped s).setTun t (pendingUntil (drawnTick s (lfsrStep s.lfsr)) (s.tun t)) := by
  obtain ⟨⟨htest, c, hcur, hworn⟩, hsilent⟩ := h
  simp only [dueTest, hcur, htest, hworn, Bool.and_self, if_true, if_neg hsilent, enterPending_eq]
  rfl

/-- The drawing tunnels below number `n`. -/
def drawsBelow (b : State) (n : Nat) : Set TunnelId := {t | t.val < n ∧ Draws b t}

theorem drawsBelow_succ_of_draws {b : State} {t : TunnelId} (h : Draws b t) :
    (drawsBelow b (t.val + 1)).ncard = (drawsBelow b t.val).ncard + 1 := by
  have hinsert : drawsBelow b (t.val + 1) = insert t (drawsBelow b t.val) := by
    ext u
    simp only [drawsBelow, Set.mem_ofPred_eq, Set.mem_insert_iff, Fin.ext_iff, Nat.lt_succ_iff_lt_or_eq]
    constructor
    · rintro ⟨hless | hsame, hu⟩
      · exact .inr ⟨hless, hu⟩
      · exact .inl hsame
    · rintro (hsame | ⟨hless, hu⟩)
      · exact ⟨.inr hsame, Fin.ext hsame ▸ h⟩
      · exact ⟨.inl hless, hu⟩
  rw [hinsert, Set.ncard_insert_of_notMem fun hmem => lt_irrefl t.val hmem.1]

theorem drawsBelow_succ_of_not_draws {b : State} {t : TunnelId} (h : ¬ Draws b t) :
    drawsBelow b (t.val + 1) = drawsBelow b t.val := by
  ext u
  refine ⟨fun ⟨hless, hu⟩ => ⟨?_, hu⟩, fun ⟨hless, hu⟩ => ⟨hless.trans t.val.lt_succ_self, hu⟩⟩
  exact Nat.lt_of_le_of_ne (Nat.le_of_lt_succ hless) fun e => h (Fin.ext e ▸ hu)

/-- The generator once the drawing tunnels below number `n` have drawn (R90, R91). -/
noncomputable def generatorAt (b : State) (n : Nat) : BitVec 16 := lfsrRun (drawsBelow b n).ncard b.lfsr

/-- The due tests, begun in `b`, have passed the tunnels below number `n` and have come to `r` (R88). -/
structure Tested (b : State) (n : Nat) (r : State) : Prop where
  undue : ∀ t, ¬ Due b t → r.tun t = b.tun t
  silent : ∀ t, t.val < n → Due b t → (b.tun t).health.state = .faultedSilent → r.tun t = { b.tun t with keyState := .held }
  drawn : ∀ t, t.val < n → Draws b t → r.tun t = pendingUntil (drawnTick b (generatorAt b (t.val + 1))) (b.tun t)
  ahead : ∀ t, n ≤ t.val → r.tun t = b.tun t
  generator : r.lfsr = generatorAt b n
  frame : { r with tunnels := b.tunnels, lfsr := b.lfsr } = b

theorem tested_zero (b : State) : Tested b 0 b := by
  have hnone : drawsBelow b 0 = ∅ := Set.eq_empty_of_forall_notMem fun t ht => Nat.not_lt_zero _ ht.1
  refine ⟨fun _ _ => rfl, fun t ht => absurd ht (Nat.not_lt_zero _), fun t ht => absurd ht (Nat.not_lt_zero _), fun _ _ => rfl, ?_, rfl⟩
  rw [generatorAt, hnone, Set.ncard_empty, lfsrRun_zero]

theorem Tested.fields {b r : State} {n : Nat} (h : Tested b n r) : r.tick = b.tick ∧ r.profiles = b.profiles
    ∧ r.jitterBase = b.jitterBase ∧ r.jitterRange = b.jitterRange :=
  ⟨(congrArg State.tick h.frame :), (congrArg State.profiles h.frame :), (congrArg State.jitterBase h.frame :),
    (congrArg State.jitterRange h.frame :)⟩

/-- The tests change tunnels and the generator alone, whatever these and the interval's flag are set to. -/
theorem Tested.rest {b r : State} {n : Nat} (h : Tested b n r) (v : Vector Tunnel 1024) (x : BitVec 16) (flag : Bool) :
    ({ r with tunnels := v, lfsr := x, intervalEnd := flag } : State) = { b with tunnels := v, lfsr := x, intervalEnd := flag } :=
  congrArg (fun q : State => { q with tunnels := v, lfsr := x, intervalEnd := flag }) h.frame

theorem Tested.intervalEnd {b r : State} {n : Nat} (h : Tested b n r) : r.intervalEnd = b.intervalEnd :=
  (congrArg State.intervalEnd h.frame :)

/-- The tests so far have left what the next test reads. -/
theorem Tested.due_iff {b r : State} {t : TunnelId} (h : Tested b t.val r) : Due r t ↔ Due b t := by
  obtain ⟨-, hprofiles, hbase, hrange⟩ := h.fields
  simp only [Due, State.prof, leadTime, h.ahead t le_rfl, hprofiles, hbase, hrange]

theorem Tested.drawnTick_eq {b r : State} {n : Nat} (h : Tested b n r) (x : BitVec 16) : drawnTick r x = drawnTick b x := by
  obtain ⟨htick, -, hbase, hrange⟩ := h.fields
  simp only [drawnTick, State.after, htick, hbase, hrange]

/-- One more tunnel is past once its entry is `y` and the generator has moved on. -/
theorem Tested.extend {b r q : State} {t : TunnelId} {y : Tunnel} (h : Tested b t.val r) (htun : q.tunnels = (r.setTun t y).tunnels)
    (hundue : ¬ Due b t → y = b.tun t)
    (hsilent : Due b t → (b.tun t).health.state = .faultedSilent → y = { b.tun t with keyState := .held })
    (hdrawn : Draws b t → y = pendingUntil (drawnTick b (generatorAt b (t.val + 1))) (b.tun t))
    (hgenerator : q.lfsr = generatorAt b (t.val + 1))
    (hframe : { q with tunnels := b.tunnels, lfsr := b.lfsr } = { r with tunnels := b.tunnels, lfsr := b.lfsr }) :
    Tested b (t.val + 1) q := by
  have hself : q.tun t = y := by rw [State.tun, htun]; exact State.tun_setTun_self r t y
  have hother (u : TunnelId) (hu : u ≠ t) : q.tun u = r.tun u := by rw [State.tun, htun]; exact State.tun_setTun_ne r y hu
  have hbelow (u : TunnelId) (hpast : u.val < t.val + 1) (hne : u ≠ t) : u.val < t.val :=
    Nat.lt_of_le_of_ne (Nat.le_of_lt_succ hpast) (Fin.val_ne_of_ne hne)
  refine ⟨fun u hu => ?_, fun u hpast hdue hstate => ?_, fun u hpast hdraws => ?_, fun u hahead => ?_, hgenerator,
    hframe.trans h.frame⟩
  · rcases eq_or_ne u t with rfl | hne
    · rw [hself, hundue hu]
    · rw [hother u hne, h.undue u hu]
  · rcases eq_or_ne u t with rfl | hne
    · rw [hself, hsilent hdue hstate]
    · rw [hother u hne, h.silent u (hbelow u hpast hne) hdue hstate]
  · rcases eq_or_ne u t with rfl | hne
    · rw [hself, hdrawn hdraws]
    · rw [hother u hne, h.drawn u (hbelow u hpast hne) hdraws]
  · rw [hother u (Fin.ne_of_gt hahead), h.ahead u (Nat.le_of_succ_le hahead)]

theorem Tested.dueTest {b r : State} {t : TunnelId} (h : Tested b t.val r) : Tested b (t.val + 1) (dueTest r t) := by
  have hentry := h.ahead t le_rfl
  have hkept (hnot : ¬ Draws b t) : r.lfsr = generatorAt b (t.val + 1) := by
    rw [h.generator, generatorAt, generatorAt, drawsBelow_succ_of_not_draws hnot]
  by_cases hdue : Due b t
  · by_cases hsilent : (b.tun t).health.state = .faultedSilent
    · rw [dueTest_of_silent (h.due_iff.mpr hdue) (by rw [hentry]; exact hsilent), hentry]
      exact h.extend rfl (fun hnot => absurd hdue hnot) (fun _ _ => rfl) (fun hdraws => absurd hsilent hdraws.2)
        (hkept fun hdraws => hdraws.2 hsilent) rfl
    · have hdraws : Draws b t := ⟨hdue, hsilent⟩
      have hstep : lfsrStep r.lfsr = generatorAt b (t.val + 1) := by
        rw [h.generator, generatorAt, generatorAt, drawsBelow_succ_of_draws hdraws, lfsrRun_succ]
      rw [dueTest_of_draws ⟨h.due_iff.mpr hdue, by rw [hentry]; exact hsilent⟩, hentry, h.drawnTick_eq, hstep]
      exact h.extend rfl (fun hnot => absurd hdue hnot) (fun _ hstate => absurd hstate hsilent) (fun _ => rfl) hstep rfl
  · rw [dueTest_of_not_due fun hr => hdue (h.due_iff.mp hr)]
    refine h.extend (y := r.tun t) (by rw [State.setTun_tun]) (fun _ => hentry) (fun hd => absurd hd hdue)
      (fun hdraws => absurd hdraws.1 hdue) (hkept fun hdraws => hdue hdraws.1) rfl

theorem allTunnels_take_succ (t : TunnelId) : allTunnels.take (t.val + 1) = allTunnels.take t.val ++ [t] := by
  have hlength : t.val < allTunnels.length := by rw [allTunnels, List.length_finRange]; exact t.isLt
  rw [List.take_succ_eq_append_getElem hlength]
  simp only [allTunnels, List.getElem_finRange, Fin.cast_mk, Fin.eta]

/-- The due tests go through the tunnels in ascending order (R88). -/
theorem tested_take (b : State) (n : Nat) (hn : n ≤ 1024) : Tested b n ((allTunnels.take n).foldl dueTest b) := by
  induction n with
  | zero => exact tested_zero b
  | succ n ih =>
    rw [allTunnels_take_succ ⟨n, hn⟩, List.foldl_append]
    exact Tested.dueTest (t := ⟨n, hn⟩) (ih (Nat.le_of_succ_le hn))

theorem tested_all (b : State) : Tested b 1024 (allTunnels.foldl dueTest b) := by
  have hall : allTunnels.take 1024 = allTunnels := List.take_of_length_le (by rw [allTunnels, List.length_finRange])
  have htested := tested_take b 1024 le_rfl
  rwa [hall] at htested

theorem endInterval_rate (p : Vector Profile 16) (x : Tunnel) : (x.endInterval p).rate =
    if x.cfg.enabled = true ∧ x.cur ≠ none then rateFilter x.rate x.sample p[x.cfg.profile].rateBeta else x.rate := by
  simp only [Tunnel.endInterval, Bool.and_eq_true, Option.isSome_iff_ne_none]

theorem measured_rest {s : State} (hend : s.intervalEnd = true) :
    ({ measured s with tunnels := s.tunnels, lfsr := s.lfsr, intervalEnd := true } : State) = s := by
  rw [← hend]
  rfl

theorem exec_rateIntervalEnd {s : State} (hlive : s.rstLow = false) (hend : s.intervalEnd = true) :
    exec .rateIntervalEnd s = .next (allTunnels.foldl dueTest (measured s)) := by
  rw [exec_of_live (c := .rateIntervalEnd) rfl hlive, if_pos hend, measured]

theorem exec_tick {s : State} (hlive : s.rstLow = false) : exec .tick s = .next { s with
    tick := s.tick + 1, phase := s.phase + 1, clock := (s.tick + 1) * 100, intervalEnd := s.intervalEnd || s.phase + 1 == 0 } :=
  exec_of_live (c := .tick) rfl hlive

/-- Settles O42: the tick, and the rate interval's end by the due tests passed, tunnel by tunnel. -/
theorem ticksAndRateIntervals : Obligations.TicksAndRateIntervals := by
  refine ⟨fun s e d part sub => ⟨after_toNat s d, reached_iff s e, clockAt_of_part sub part.isLt⟩, fun s hlive hidle => ?_,
    dueTestable_iff, fun s hlive => ?_, fun s hlive hend => ?_⟩
  · rw [exec_of_live (c := .rateIntervalEnd) rfl hlive, if_neg (by simp [hidle])]
  · have hphase (k : Fin 10) : (k + 1).val = (k.val + 1) % 10 ∧ (k + 1 = 0 ↔ k.val = 9) := by revert k; decide
    refine ⟨_, exec_tick hlive, ?_, (hphase s.phase).1, ?_, rfl, rfl⟩
    · exact after_toNat s 1
    · rw [Bool.or_eq_true, beq_iff_eq, (hphase s.phase).2]
  · have hexec := exec_rateIntervalEnd hlive hend
    have htested := tested_all (measured s)
    have hmid (t : TunnelId) : (measured s).tun t = (s.tun t).endInterval s.profiles := tun_of_vecMap rfl t
    generalize allTunnels.foldl dueTest (measured s) = r at hexec htested
    intro mid due draws state
    have hdue (t : TunnelId) : Due (measured s) t ↔ due t := by
      simp only [Due, State.prof, hmid]
      rfl
    have hdraws (t : TunnelId) : Draws (measured s) t ↔ draws t := by
      simp only [Draws, hdue, hmid]
      rfl
    refine ⟨r, hexec, fun t => ⟨endInterval_rate _ _, rfl⟩, fun t hnot => ?_, fun t hd hsilent => ?_, fun t hd => ?_, ?_, ?_, ?_⟩
    · exact (htested.undue t fun h => hnot ((hdue t).mp h)).trans (hmid t)
    · rw [htested.silent t t.isLt ((hdue t).mpr hd) (by rw [hmid]; exact hsilent), hmid]
    · have hset : drawsBelow (measured s) (t.val + 1) = {u | u ≤ t ∧ draws u} := by
        ext u
        exact and_congr Nat.lt_succ_iff (hdraws u)
      rw [htested.drawn t t.isLt ((hdraws t).mpr hd), hmid, generatorAt, hset]
      rfl
    · exact (htested.rest _ _ _).trans (measured_rest hend)
    · rw [htested.intervalEnd, measured]
    · have hset : drawsBelow (measured s) 1024 = {u | draws u} := by
        ext u
        exact (and_iff_right u.isLt).trans (hdraws u)
      rw [htested.generator, generatorAt, hset]
      rfl

end Sys2Proof.Proofs
end
